-- ==== Sys2Proof/Word.lean ====
section
/-! DEFINITION. The words of `CORE`: the 8-bit byte and the 32-bit CRC/size word (spec/00_scope.md R10). All integers
are unsigned; positions and lengths are natural numbers (R8, R61). -/

namespace Sys2Proof

/-- The addressable unit of `IN`, `PAY` and `OUT` (R61). -/
abbrev Byte := BitVec 8

/-- `u32`: the running CRC and the footer fields (R31, R39). -/
abbrev Word32 := BitVec 32

end Sys2Proof
end

