-- ==== Sys2Proof/Config.lean ====
section
/-! DEFINITION. What is fixed for one `CORE`: the constants of spec/00_scope.md R7 and the open parameters.
`BUF_CAP` and `POS_W` are unbounded (R8, log entry 11); `TOKENIZER = reference` (R201, log entry 10). -/

namespace Sys2Proof.Config

/-- R7: largest back-reference distance searched and emitted. -/
abbrev windowSize : Nat := 32768
/-- R7: shortest match, and the hash key length in bytes. -/
abbrev minMatch : Nat := 3
/-- R7: longest match. -/
abbrev maxMatch : Nat := 258
/-- R7: most chain candidates walked per search. -/
abbrev maxChain : Nat := 128
/-- R7: bytes of the fixed gzip header. -/
abbrev headerLen : Nat := 10
/-- R7: bytes of the gzip footer. -/
abbrev footerLen : Nat := 8
/-- R7: shortest input `DECOMPRESS` examines. -/
abbrev minContainer : Nat := 18
/-- R7: literal/length symbols 0..287. -/
abbrev litlenSyms : Nat := 288
/-- R7: distance symbols 0..31. -/
abbrev distSyms : Nat := 32
/-- R7: width of the full decode table. -/
abbrev maxCodeLen : Nat := 9
/-- R7: length of every distance code. -/
abbrev distCodeLen : Nat := 5
/-- The largest bit count one reader or writer operation takes (R141, R146; decision D18). -/
abbrev maxBits : Nat := 16
/-- R7: the reflected CRC-32 polynomial. -/
abbrev crcPoly : Word32 := 0xEDB88320#32
/-- R7: the initial running CRC. -/
abbrev crcInit : Word32 := 0xFFFFFFFF#32
/-- R7: the final complement. -/
abbrev crcXorOut : Word32 := 0xFFFFFFFF#32

/-- The values of the parameter `FOOTER_ORDER` (spec/60_exceptions.md R312). -/
inductive FooterOrder where
  | crcFirst
  | sizeFirst
deriving DecidableEq, Repr, Inhabited

/-- `FOOTER_ORDER` (R312, U4): the source does not order the two footer checks, so the parameter has no value here
(log entry 9). -/
opaque footerOrder : FooterOrder

/-- The content of `OUT` after a command that ended in an error (R26, R320, U6): any value, a fresh one for every
error (log entry 8). -/
opaque freeOut : Nat → List Byte

/-- What `TK.FINDMATCH(q)` answers at a `q` beyond the input, for which R193 states no result: any value, a fresh one for
every such search (log entry 29). -/
opaque freeSearch : Nat → Option (Nat × Nat)

end Sys2Proof.Config
end

