-- ==== Sys2Proof/Machine/Bits.lean ====
section
/-! DEFINITION. Bit order, bit reversal and byte order (spec/00_scope.md R11, R12; spec/20_memory.md R62 to R65). -/

namespace Sys2Proof.Machine

/-- `rev(v, n)` (R12): result bit `i` is bit `n-1-i` of `v`. -/
def rev (v : Nat) : Nat → Nat
  | 0 => 0
  | n + 1 => v % 2 * 2 ^ n + rev (v / 2) n

/-- Stream bit `k` of a byte sequence (R11): `src[k div 8][k mod 8]`, and zero past the end. -/
def bitAt (src : List Byte) (k : Nat) : Bool := (src.getD (k / 8) 0).getLsbD (k % 8)

/-- The `n` stream bits from `pos`, the first one least significant, zero past the end (R146, R148). -/
def bitsAt (src : List Byte) (pos : Nat) : Nat → Nat
  | 0 => 0
  | n + 1 => (bitAt src pos).toNat + 2 * bitsAt src (pos + 1) n

/-- The little-endian integer of a byte sequence (R65, `MemRead` of R12). -/
def leNat : List Byte → Nat
  | [] => 0
  | b :: bs => b.toNat + 256 * leNat bs

/-- The `k` low bytes of an integer, least significant first (R65). -/
def leBytes : Nat → Nat → List Byte
  | 0, _ => []
  | k + 1, x => BitVec.ofNat 8 x :: leBytes k (x / 256)

end Sys2Proof.Machine
end

