-- ==== Sys2Proof/Machine/Tables.lean ====
section
/-! DEFINITION. The constant ROMs (spec/10_state.md R32 to R35): CRC table, Huffman code and decode tables, length and
distance tables. -/

namespace Sys2Proof.Machine

/-- `LITLEN_CODE[s] = (code, len)` (R170). -/
def litlenCode (s : Nat) : Nat × Nat :=
  if s ≤ 143 then (0x30 + s, 8)
  else if s ≤ 255 then (0x190 + (s - 144), 9)
  else if s ≤ 279 then (s - 256, 7)
  else (0xC0 + (s - 280), 8)

/-- `DIST_CODE[d] = (d, 5)` (R171). -/
def distCode (d : Nat) : Nat × Nat := (d, Config.distCodeLen)

/-- `LITLEN_DEC9[w] = (symbol, len)` for a 9-bit index `w` (R175, in the closed form that R116 gives). -/
def litlenDec9 (w : Nat) : Nat × Nat :=
  let c9 := rev w 9
  let c8 := c9 / 2
  let c7 := c9 / 4
  if c7 ≤ 0x17 then (256 + c7, 7)
  else if c8 ≤ 0xBF then (c8 - 0x30, 8)
  else if c8 ≤ 0xC7 then (280 + (c8 - 0xC0), 8)
  else (144 + (c9 - 0x190), 9)

/-- `LITLEN_DEC7[w]` (R176): `none` is the `LONG` marker. -/
def litlenDec7 (w : Nat) : Option (Nat × Nat) :=
  if rev w 7 ≤ 0x17 then some (256 + rev w 7, 7) else none

/-- `DIST_DEC5[w] = (rev(w, 5), 5)` (R176). -/
def distDec5 (w : Nat) : Nat × Nat := (rev w Config.distCodeLen, Config.distCodeLen)

/-- `LEN_BASE` for symbols 257..285 (R112). -/
def lenBaseTable : List Nat :=
  [3, 4, 5, 6, 7, 8, 9, 10, 11, 13, 15, 17, 19, 23, 27, 31, 35, 43, 51, 59, 67, 83, 99, 115, 131, 163, 195, 227, 258]

/-- `LEN_EXTRA` for symbols 257..285 (R112). -/
def lenExtraTable : List Nat :=
  [0, 0, 0, 0, 0, 0, 0, 0, 1, 1, 1, 1, 2, 2, 2, 2, 3, 3, 3, 3, 4, 4, 4, 4, 5, 5, 5, 5, 0]

/-- `DIST_BASE` for symbols 0..29 (R114). -/
def distBaseTable : List Nat :=
  [1, 2, 3, 4, 5, 7, 9, 13, 17, 25, 33, 49, 65, 97, 129, 193, 257, 385, 513, 769, 1025, 1537, 2049, 3073, 4097, 6145,
    8193, 12289, 16385, 24577]

/-- `DIST_EXTRA` for symbols 0..29 (R114). -/
def distExtraTable : List Nat :=
  [0, 0, 0, 0, 1, 1, 2, 2, 3, 3, 4, 4, 5, 5, 6, 6, 7, 7, 8, 8, 9, 9, 10, 10, 11, 11, 12, 12, 13, 13]

/-- `LEN_BASE[i]` (R35). -/
def lenBase (i : Nat) : Nat := lenBaseTable.getD i 0
/-- `LEN_EXTRA[i]` (R35). -/
def lenExtra (i : Nat) : Nat := lenExtraTable.getD i 0
/-- `DIST_BASE[j]` (R35). -/
def distBase (j : Nat) : Nat := distBaseTable.getD j 0
/-- `DIST_EXTRA[j]` (R35). -/
def distExtra (j : Nat) : Nat := distExtraTable.getD j 0

/-- One of the eight shift-and-xor steps that make a `CRC_TAB` entry (R160). -/
def crcShift (c : Word32) : Word32 :=
  if c.getLsbD 0 then (c >>> 1) ^^^ Config.crcPoly else c >>> 1

/-- `CRC_TAB[k]` (R32, R160): eight steps from `k`. -/
def crcTab (k : Byte) : Word32 :=
  crcShift (crcShift (crcShift (crcShift (crcShift (crcShift (crcShift (crcShift (k.setWidth 32))))))))

end Sys2Proof.Machine
end

