-- ==== Sys2Proof/Syntax.lean ====
section
/-! DEFINITION. The instructions of `CORE`: one constructor per row of spec/opcode_table.json, the literals last
(spec/30_encoding.md R90, R137). They are of three kinds: the elements of the gzip/DEFLATE stream, the host commands and
the unit operations (R132). -/

namespace Sys2Proof

/-- What kind of word an instruction is read from (R90): a `MATCH` row (length symbol) is read where a literal/length
code is, and a `DIST` row where a distance code is. -/
inductive Format where
  | litlen
  | dist
  | blkhdr
  | stored
  | gzhdr
  | gzopt
  | gzftr
  | cmd
  | uop
deriving DecidableEq, Repr

/-- The instructions. Operands: `e` and `x` are the raw extra bits of a length and of a distance element (R113, R115),
`f` is BFINAL (R96); a unit operation's operands are those its rule lists. -/
inductive Instr where
  -- Length symbols with their extra bits (R102, R112, R242)
  | len257
  | len258
  | len259
  | len260
  | len261
  | len262
  | len263
  | len264
  | len265 (e : BitVec 1)
  | len266 (e : BitVec 1)
  | len267 (e : BitVec 1)
  | len268 (e : BitVec 1)
  | len269 (e : BitVec 2)
  | len270 (e : BitVec 2)
  | len271 (e : BitVec 2)
  | len272 (e : BitVec 2)
  | len273 (e : BitVec 3)
  | len274 (e : BitVec 3)
  | len275 (e : BitVec 3)
  | len276 (e : BitVec 3)
  | len277 (e : BitVec 4)
  | len278 (e : BitVec 4)
  | len279 (e : BitVec 4)
  | len280 (e : BitVec 4)
  | len281 (e : BitVec 5)
  | len282 (e : BitVec 5)
  | len283 (e : BitVec 5)
  | len284 (e : BitVec 5)
  | len285
  -- Distance symbols with their extra bits (R114, R242, R243)
  | dist0
  | dist1
  | dist2
  | dist3
  | dist4 (x : BitVec 1)
  | dist5 (x : BitVec 1)
  | dist6 (x : BitVec 2)
  | dist7 (x : BitVec 2)
  | dist8 (x : BitVec 3)
  | dist9 (x : BitVec 3)
  | dist10 (x : BitVec 4)
  | dist11 (x : BitVec 4)
  | dist12 (x : BitVec 5)
  | dist13 (x : BitVec 5)
  | dist14 (x : BitVec 6)
  | dist15 (x : BitVec 6)
  | dist16 (x : BitVec 7)
  | dist17 (x : BitVec 7)
  | dist18 (x : BitVec 8)
  | dist19 (x : BitVec 8)
  | dist20 (x : BitVec 9)
  | dist21 (x : BitVec 9)
  | dist22 (x : BitVec 10)
  | dist23 (x : BitVec 10)
  | dist24 (x : BitVec 11)
  | dist25 (x : BitVec 11)
  | dist26 (x : BitVec 12)
  | dist27 (x : BitVec 12)
  | dist28 (x : BitVec 13)
  | dist29 (x : BitVec 13)
  | reservedDist30
  | reservedDist31
  -- Block headers (R96, R97)
  | blkStored (f : BitVec 1)
  | blkFixed (f : BitVec 1)
  | blkDynamic (f : BitVec 1)
  | blkReserved (f : BitVec 1)
  -- Stored block body (R98)
  | storedBody (len : BitVec 16) (nlen : BitVec 16)
  -- gzip header (R91)
  | gzhdr (flg : Byte) (mtime : BitVec 32) (xfl : Byte) (os : Byte)
  -- Optional header fields (R92, R93)
  | gzoptFextra
  | gzoptFname
  | gzoptFcomment
  | gzoptFhcrc
  -- gzip footer (R94)
  | gzftr (crc : Word32) (size : Word32)
  -- Host commands (R130)
  | cmdNone
  | compress
  | decompress
  | cmdReserved
  -- Unit operations (R132)
  | bwInit
  | bwWritebits (value : Nat) (n : Nat)
  | bwAlign
  | bwAppendbyte (b : Byte)
  | brInit (src : List Byte)
  | brReadbits (n : Nat)
  | brPeekbits (n : Nat)
  | brAlign
  | brSkipbits (n : Nat)
  | crcInit
  | crcUpdate (b : Byte)
  | crcFinal
  | heLitlen (sym : Nat)
  | heDist (d : Nat)
  | hdLitlen
  | hdDist
  | tkInsert (c : Nat)
  | tkFindmatch (q : Nat)
  | tkTokenize
  | encBlock
  | encLiteral (b : Byte)
  | encMatch (len : Nat) (dist : Nat)
  | encEob
  | decInflate
  | decBlkhdr
  | decStored
  | decFixed
  | decCopy (len : Nat) (dist : Nat)
  | gzWritehdr
  | gzWriteftr
  | gzParsehdr
  | gzCheckftr
  -- Literal/length symbols (R99 to R101, R240, R241, R243)
  | lit00 | lit01 | lit02 | lit03 | lit04 | lit05 | lit06 | lit07 | lit08 | lit09 | lit0A | lit0B | lit0C
  | lit0D | lit0E | lit0F | lit10 | lit11 | lit12 | lit13 | lit14 | lit15 | lit16 | lit17 | lit18 | lit19
  | lit1A | lit1B | lit1C | lit1D | lit1E | lit1F | lit20 | lit21 | lit22 | lit23 | lit24 | lit25 | lit26
  | lit27 | lit28 | lit29 | lit2A | lit2B | lit2C | lit2D | lit2E | lit2F | lit30 | lit31 | lit32 | lit33
  | lit34 | lit35 | lit36 | lit37 | lit38 | lit39 | lit3A | lit3B | lit3C | lit3D | lit3E | lit3F | lit40
  | lit41 | lit42 | lit43 | lit44 | lit45 | lit46 | lit47 | lit48 | lit49 | lit4A | lit4B | lit4C | lit4D
  | lit4E | lit4F | lit50 | lit51 | lit52 | lit53 | lit54 | lit55 | lit56 | lit57 | lit58 | lit59 | lit5A
  | lit5B | lit5C | lit5D | lit5E | lit5F | lit60 | lit61 | lit62 | lit63 | lit64 | lit65 | lit66 | lit67
  | lit68 | lit69 | lit6A | lit6B | lit6C | lit6D | lit6E | lit6F | lit70 | lit71 | lit72 | lit73 | lit74
  | lit75 | lit76 | lit77 | lit78 | lit79 | lit7A | lit7B | lit7C | lit7D | lit7E | lit7F | lit80 | lit81
  | lit82 | lit83 | lit84 | lit85 | lit86 | lit87 | lit88 | lit89 | lit8A | lit8B | lit8C | lit8D | lit8E
  | lit8F | lit90 | lit91 | lit92 | lit93 | lit94 | lit95 | lit96 | lit97 | lit98 | lit99 | lit9A | lit9B
  | lit9C | lit9D | lit9E | lit9F | litA0 | litA1 | litA2 | litA3 | litA4 | litA5 | litA6 | litA7 | litA8
  | litA9 | litAA | litAB | litAC | litAD | litAE | litAF | litB0 | litB1 | litB2 | litB3 | litB4 | litB5
  | litB6 | litB7 | litB8 | litB9 | litBA | litBB | litBC | litBD | litBE | litBF | litC0 | litC1 | litC2
  | litC3 | litC4 | litC5 | litC6 | litC7 | litC8 | litC9 | litCA | litCB | litCC | litCD | litCE | litCF
  | litD0 | litD1 | litD2 | litD3 | litD4 | litD5 | litD6 | litD7 | litD8 | litD9 | litDA | litDB | litDC
  | litDD | litDE | litDF | litE0 | litE1 | litE2 | litE3 | litE4 | litE5 | litE6 | litE7 | litE8 | litE9
  | litEA | litEB | litEC | litED | litEE | litEF | litF0 | litF1 | litF2 | litF3 | litF4 | litF5 | litF6
  | litF7 | litF8 | litF9 | litFA | litFB | litFC | litFD | litFE | litFF
  | eob
  | reservedLitlen286
  | reservedLitlen287
deriving DecidableEq, Repr

/-- The format each instruction is read from. -/
def Instr.format (i : Instr) : Format :=
  match i with
  | .len257 | .len258 | .len259 | .len260 | .len261 | .len262 | .len263 | .len264 | .len265 _ | .len266 _
  | .len267 _ | .len268 _ | .len269 _ | .len270 _ | .len271 _ | .len272 _ | .len273 _ | .len274 _ | .len275 _
  | .len276 _ | .len277 _ | .len278 _ | .len279 _ | .len280 _ | .len281 _ | .len282 _ | .len283 _ | .len284 _
  | .len285 | .lit00 | .lit01 | .lit02 | .lit03 | .lit04 | .lit05 | .lit06 | .lit07 | .lit08 | .lit09 | .lit0A
  | .lit0B | .lit0C | .lit0D | .lit0E | .lit0F | .lit10 | .lit11 | .lit12 | .lit13 | .lit14 | .lit15 | .lit16
  | .lit17 | .lit18 | .lit19 | .lit1A | .lit1B | .lit1C | .lit1D | .lit1E | .lit1F | .lit20 | .lit21 | .lit22
  | .lit23 | .lit24 | .lit25 | .lit26 | .lit27 | .lit28 | .lit29 | .lit2A | .lit2B | .lit2C | .lit2D | .lit2E
  | .lit2F | .lit30 | .lit31 | .lit32 | .lit33 | .lit34 | .lit35 | .lit36 | .lit37 | .lit38 | .lit39 | .lit3A
  | .lit3B | .lit3C | .lit3D | .lit3E | .lit3F | .lit40 | .lit41 | .lit42 | .lit43 | .lit44 | .lit45 | .lit46
  | .lit47 | .lit48 | .lit49 | .lit4A | .lit4B | .lit4C | .lit4D | .lit4E | .lit4F | .lit50 | .lit51 | .lit52
  | .lit53 | .lit54 | .lit55 | .lit56 | .lit57 | .lit58 | .lit59 | .lit5A | .lit5B | .lit5C | .lit5D | .lit5E
  | .lit5F | .lit60 | .lit61 | .lit62 | .lit63 | .lit64 | .lit65 | .lit66 | .lit67 | .lit68 | .lit69 | .lit6A
  | .lit6B | .lit6C | .lit6D | .lit6E | .lit6F | .lit70 | .lit71 | .lit72 | .lit73 | .lit74 | .lit75 | .lit76
  | .lit77 | .lit78 | .lit79 | .lit7A | .lit7B | .lit7C | .lit7D | .lit7E | .lit7F | .lit80 | .lit81 | .lit82
  | .lit83 | .lit84 | .lit85 | .lit86 | .lit87 | .lit88 | .lit89 | .lit8A | .lit8B | .lit8C | .lit8D | .lit8E
  | .lit8F | .lit90 | .lit91 | .lit92 | .lit93 | .lit94 | .lit95 | .lit96 | .lit97 | .lit98 | .lit99 | .lit9A
  | .lit9B | .lit9C | .lit9D | .lit9E | .lit9F | .litA0 | .litA1 | .litA2 | .litA3 | .litA4 | .litA5 | .litA6
  | .litA7 | .litA8 | .litA9 | .litAA | .litAB | .litAC | .litAD | .litAE | .litAF | .litB0 | .litB1 | .litB2
  | .litB3 | .litB4 | .litB5 | .litB6 | .litB7 | .litB8 | .litB9 | .litBA | .litBB | .litBC | .litBD | .litBE
  | .litBF | .litC0 | .litC1 | .litC2 | .litC3 | .litC4 | .litC5 | .litC6 | .litC7 | .litC8 | .litC9 | .litCA
  | .litCB | .litCC | .litCD | .litCE | .litCF | .litD0 | .litD1 | .litD2 | .litD3 | .litD4 | .litD5 | .litD6
  | .litD7 | .litD8 | .litD9 | .litDA | .litDB | .litDC | .litDD | .litDE | .litDF | .litE0 | .litE1 | .litE2
  | .litE3 | .litE4 | .litE5 | .litE6 | .litE7 | .litE8 | .litE9 | .litEA | .litEB | .litEC | .litED | .litEE
  | .litEF | .litF0 | .litF1 | .litF2 | .litF3 | .litF4 | .litF5 | .litF6 | .litF7 | .litF8 | .litF9 | .litFA
  | .litFB | .litFC | .litFD | .litFE | .litFF | .eob | .reservedLitlen286 | .reservedLitlen287 => .litlen
  | .dist0 | .dist1 | .dist2 | .dist3 | .dist4 _ | .dist5 _ | .dist6 _ | .dist7 _ | .dist8 _ | .dist9 _
  | .dist10 _ | .dist11 _ | .dist12 _ | .dist13 _ | .dist14 _ | .dist15 _ | .dist16 _ | .dist17 _ | .dist18 _
  | .dist19 _ | .dist20 _ | .dist21 _ | .dist22 _ | .dist23 _ | .dist24 _ | .dist25 _ | .dist26 _ | .dist27 _
  | .dist28 _ | .dist29 _ | .reservedDist30 | .reservedDist31 => .dist
  | .blkStored _ | .blkFixed _ | .blkDynamic _ | .blkReserved _ => .blkhdr
  | .storedBody _ _ => .stored
  | .gzhdr _ _ _ _ => .gzhdr
  | .gzoptFextra | .gzoptFname | .gzoptFcomment | .gzoptFhcrc => .gzopt
  | .gzftr _ _ => .gzftr
  | .cmdNone | .compress | .decompress | .cmdReserved => .cmd
  | .bwInit | .bwWritebits _ _ | .bwAlign | .bwAppendbyte _ | .brInit _ | .brReadbits _ | .brPeekbits _
  | .brAlign | .brSkipbits _ | .crcInit | .crcUpdate _ | .crcFinal | .heLitlen _ | .heDist _ | .hdLitlen
  | .hdDist | .tkInsert _ | .tkFindmatch _ | .tkTokenize | .encBlock | .encLiteral _ | .encMatch _ _ | .encEob
  | .decInflate | .decBlkhdr | .decStored | .decFixed | .decCopy _ _ | .gzWritehdr | .gzWriteftr | .gzParsehdr
  | .gzCheckftr => .uop

end Sys2Proof
end

