-- ==== Sys2Proof/WellFormed.lean ====
section
/-! DEFINITION. Which instructions are well formed: every operand in the range its rule gives it. Operands of the stream
elements fill their fields exactly, so only unit operations have checks. -/

namespace Sys2Proof

/-- A bit count the reader and the writer take (R141, R146; U11). -/
def bitCountOk (n : Nat) : Bool := n ≤ Config.maxBits

/-- A length and a distance a match may have (R37; U12). -/
def matchOk (len dist : Nat) : Bool :=
  Config.minMatch ≤ len && len ≤ Config.maxMatch && 1 ≤ dist && dist ≤ Config.windowSize

/-- Well-formedness. The bound on `BR.INIT`'s operand is the width of its length field in the operand layout (log entry
4). -/
def WellFormed (i : Instr) : Bool :=
  match i with
  | .bwWritebits _ n => bitCountOk n
  | .brInit src => src.length < 2 ^ 32
  | .brReadbits n => bitCountOk n
  | .brPeekbits n => bitCountOk n
  | .brSkipbits n => bitCountOk n
  | .heLitlen sym => sym < Config.litlenSyms
  | .heDist d => d < Config.distSyms
  | .encMatch len dist => matchOk len dist
  | .decCopy len dist => matchOk len dist
  | .len257 | .len258 | .len259 | .len260 | .len261 | .len262 | .len263 | .len264 | .len265 _ | .len266 _
  | .len267 _ | .len268 _ | .len269 _ | .len270 _ | .len271 _ | .len272 _ | .len273 _ | .len274 _ | .len275 _
  | .len276 _ | .len277 _ | .len278 _ | .len279 _ | .len280 _ | .len281 _ | .len282 _ | .len283 _ | .len284 _
  | .len285 | .dist0 | .dist1 | .dist2 | .dist3 | .dist4 _ | .dist5 _ | .dist6 _ | .dist7 _ | .dist8 _
  | .dist9 _ | .dist10 _ | .dist11 _ | .dist12 _ | .dist13 _ | .dist14 _ | .dist15 _ | .dist16 _ | .dist17 _
  | .dist18 _ | .dist19 _ | .dist20 _ | .dist21 _ | .dist22 _ | .dist23 _ | .dist24 _ | .dist25 _ | .dist26 _
  | .dist27 _ | .dist28 _ | .dist29 _ | .reservedDist30 | .reservedDist31 | .blkStored _ | .blkFixed _
  | .blkDynamic _ | .blkReserved _ | .storedBody _ _ | .gzhdr _ _ _ _ | .gzoptFextra | .gzoptFname
  | .gzoptFcomment | .gzoptFhcrc | .gzftr _ _ | .cmdNone | .compress | .decompress | .cmdReserved | .bwInit
  | .bwAlign | .bwAppendbyte _ | .brAlign | .crcInit | .crcUpdate _ | .crcFinal | .hdLitlen | .hdDist
  | .tkInsert _ | .tkFindmatch _ | .tkTokenize | .encBlock | .encLiteral _ | .encEob | .decInflate | .decBlkhdr
  | .decStored | .decFixed | .gzWritehdr | .gzWriteftr | .gzParsehdr | .gzCheckftr | .lit00 | .lit01 | .lit02
  | .lit03 | .lit04 | .lit05 | .lit06 | .lit07 | .lit08 | .lit09 | .lit0A | .lit0B | .lit0C | .lit0D | .lit0E
  | .lit0F | .lit10 | .lit11 | .lit12 | .lit13 | .lit14 | .lit15 | .lit16 | .lit17 | .lit18 | .lit19 | .lit1A
  | .lit1B | .lit1C | .lit1D | .lit1E | .lit1F | .lit20 | .lit21 | .lit22 | .lit23 | .lit24 | .lit25 | .lit26
  | .lit27 | .lit28 | .lit29 | .lit2A | .lit2B | .lit2C | .lit2D | .lit2E | .lit2F | .lit30 | .lit31 | .lit32
  | .lit33 | .lit34 | .lit35 | .lit36 | .lit37 | .lit38 | .lit39 | .lit3A | .lit3B | .lit3C | .lit3D | .lit3E
  | .lit3F | .lit40 | .lit41 | .lit42 | .lit43 | .lit44 | .lit45 | .lit46 | .lit47 | .lit48 | .lit49 | .lit4A
  | .lit4B | .lit4C | .lit4D | .lit4E | .lit4F | .lit50 | .lit51 | .lit52 | .lit53 | .lit54 | .lit55 | .lit56
  | .lit57 | .lit58 | .lit59 | .lit5A | .lit5B | .lit5C | .lit5D | .lit5E | .lit5F | .lit60 | .lit61 | .lit62
  | .lit63 | .lit64 | .lit65 | .lit66 | .lit67 | .lit68 | .lit69 | .lit6A | .lit6B | .lit6C | .lit6D | .lit6E
  | .lit6F | .lit70 | .lit71 | .lit72 | .lit73 | .lit74 | .lit75 | .lit76 | .lit77 | .lit78 | .lit79 | .lit7A
  | .lit7B | .lit7C | .lit7D | .lit7E | .lit7F | .lit80 | .lit81 | .lit82 | .lit83 | .lit84 | .lit85 | .lit86
  | .lit87 | .lit88 | .lit89 | .lit8A | .lit8B | .lit8C | .lit8D | .lit8E | .lit8F | .lit90 | .lit91 | .lit92
  | .lit93 | .lit94 | .lit95 | .lit96 | .lit97 | .lit98 | .lit99 | .lit9A | .lit9B | .lit9C | .lit9D | .lit9E
  | .lit9F | .litA0 | .litA1 | .litA2 | .litA3 | .litA4 | .litA5 | .litA6 | .litA7 | .litA8 | .litA9 | .litAA
  | .litAB | .litAC | .litAD | .litAE | .litAF | .litB0 | .litB1 | .litB2 | .litB3 | .litB4 | .litB5 | .litB6
  | .litB7 | .litB8 | .litB9 | .litBA | .litBB | .litBC | .litBD | .litBE | .litBF | .litC0 | .litC1 | .litC2
  | .litC3 | .litC4 | .litC5 | .litC6 | .litC7 | .litC8 | .litC9 | .litCA | .litCB | .litCC | .litCD | .litCE
  | .litCF | .litD0 | .litD1 | .litD2 | .litD3 | .litD4 | .litD5 | .litD6 | .litD7 | .litD8 | .litD9 | .litDA
  | .litDB | .litDC | .litDD | .litDE | .litDF | .litE0 | .litE1 | .litE2 | .litE3 | .litE4 | .litE5 | .litE6
  | .litE7 | .litE8 | .litE9 | .litEA | .litEB | .litEC | .litED | .litEE | .litEF | .litF0 | .litF1 | .litF2
  | .litF3 | .litF4 | .litF5 | .litF6 | .litF7 | .litF8 | .litF9 | .litFA | .litFB | .litFC | .litFD | .litFE
  | .litFF | .eob | .reservedLitlen286 | .reservedLitlen287 => true

end Sys2Proof
end

