-- ==== Sys2Proof/Decode.lean ====
section
/-! DEFINITION. The decoder, total on every word of every format and rejecting by name, and after it the encoder, both
from the encoding tables of spec/30_encoding.md. A word is a natural number whose bit 0 is the first stream bit (R137);
bits above the instruction belong to what follows it. -/

namespace Sys2Proof

open Sys2Proof.Machine

/-- Why a word decodes to no instruction. -/
inductive Reject where
  /-- `ID1`, `ID2`, `CM` are not `1F 8B 08` (R91, R269). -/
  | badMagic
  /-- No optional-field bit of `FLG` is set (R92, R93). -/
  | noOptionalField
  /-- The select code is none of R132's. -/
  | uopCode
  /-- A bit count above 16 (R141, R146). -/
  | bitCount
  /-- A symbol above 287 (R173). -/
  | symbolRange
deriving DecidableEq, Repr

/-- The literals 0..15 (R100). -/
def litRows0 : List Instr :=
  [.lit00, .lit01, .lit02, .lit03, .lit04, .lit05, .lit06, .lit07, .lit08, .lit09, .lit0A, .lit0B, .lit0C, .lit0D, .lit0E, .lit0F]
/-- The literals 16..31 (R100). -/
def litRows1 : List Instr :=
  [.lit10, .lit11, .lit12, .lit13, .lit14, .lit15, .lit16, .lit17, .lit18, .lit19, .lit1A, .lit1B, .lit1C, .lit1D, .lit1E, .lit1F]
/-- The literals 32..47 (R100). -/
def litRows2 : List Instr :=
  [.lit20, .lit21, .lit22, .lit23, .lit24, .lit25, .lit26, .lit27, .lit28, .lit29, .lit2A, .lit2B, .lit2C, .lit2D, .lit2E, .lit2F]
/-- The literals 48..63 (R100). -/
def litRows3 : List Instr :=
  [.lit30, .lit31, .lit32, .lit33, .lit34, .lit35, .lit36, .lit37, .lit38, .lit39, .lit3A, .lit3B, .lit3C, .lit3D, .lit3E, .lit3F]
/-- The literals 64..79 (R100). -/
def litRows4 : List Instr :=
  [.lit40, .lit41, .lit42, .lit43, .lit44, .lit45, .lit46, .lit47, .lit48, .lit49, .lit4A, .lit4B, .lit4C, .lit4D, .lit4E, .lit4F]
/-- The literals 80..95 (R100). -/
def litRows5 : List Instr :=
  [.lit50, .lit51, .lit52, .lit53, .lit54, .lit55, .lit56, .lit57, .lit58, .lit59, .lit5A, .lit5B, .lit5C, .lit5D, .lit5E, .lit5F]
/-- The literals 96..111 (R100). -/
def litRows6 : List Instr :=
  [.lit60, .lit61, .lit62, .lit63, .lit64, .lit65, .lit66, .lit67, .lit68, .lit69, .lit6A, .lit6B, .lit6C, .lit6D, .lit6E, .lit6F]
/-- The literals 112..127 (R100). -/
def litRows7 : List Instr :=
  [.lit70, .lit71, .lit72, .lit73, .lit74, .lit75, .lit76, .lit77, .lit78, .lit79, .lit7A, .lit7B, .lit7C, .lit7D, .lit7E, .lit7F]
/-- The literals 128..143 (R100). -/
def litRows8 : List Instr :=
  [.lit80, .lit81, .lit82, .lit83, .lit84, .lit85, .lit86, .lit87, .lit88, .lit89, .lit8A, .lit8B, .lit8C, .lit8D, .lit8E, .lit8F]
/-- The literals 144..159 (R100). -/
def litRows9 : List Instr :=
  [.lit90, .lit91, .lit92, .lit93, .lit94, .lit95, .lit96, .lit97, .lit98, .lit99, .lit9A, .lit9B, .lit9C, .lit9D, .lit9E, .lit9F]
/-- The literals 160..175 (R100). -/
def litRowsA : List Instr :=
  [.litA0, .litA1, .litA2, .litA3, .litA4, .litA5, .litA6, .litA7, .litA8, .litA9, .litAA, .litAB, .litAC, .litAD, .litAE, .litAF]
/-- The literals 176..191 (R100). -/
def litRowsB : List Instr :=
  [.litB0, .litB1, .litB2, .litB3, .litB4, .litB5, .litB6, .litB7, .litB8, .litB9, .litBA, .litBB, .litBC, .litBD, .litBE, .litBF]
/-- The literals 192..207 (R100). -/
def litRowsC : List Instr :=
  [.litC0, .litC1, .litC2, .litC3, .litC4, .litC5, .litC6, .litC7, .litC8, .litC9, .litCA, .litCB, .litCC, .litCD, .litCE, .litCF]
/-- The literals 208..223 (R100). -/
def litRowsD : List Instr :=
  [.litD0, .litD1, .litD2, .litD3, .litD4, .litD5, .litD6, .litD7, .litD8, .litD9, .litDA, .litDB, .litDC, .litDD, .litDE, .litDF]
/-- The literals 224..239 (R100). -/
def litRowsE : List Instr :=
  [.litE0, .litE1, .litE2, .litE3, .litE4, .litE5, .litE6, .litE7, .litE8, .litE9, .litEA, .litEB, .litEC, .litED, .litEE, .litEF]
/-- The literals 240..255 (R100). -/
def litRowsF : List Instr :=
  [.litF0, .litF1, .litF2, .litF3, .litF4, .litF5, .litF6, .litF7, .litF8, .litF9, .litFA, .litFB, .litFC, .litFD, .litFE, .litFF]

/-- The 256 literal elements, by byte value (R100). -/
def litRows : List Instr :=
  litRows0 ++ litRows1 ++ litRows2 ++ litRows3 ++ litRows4 ++ litRows5 ++ litRows6 ++ litRows7 ++
    litRows8 ++ litRows9 ++ litRowsA ++ litRowsB ++ litRowsC ++ litRowsD ++ litRowsE ++ litRowsF

/-- The literal element of a byte (R240). -/
def litInstr (b : Byte) : Instr := litRows.getD b.toNat .eob

/-- The length element of symbol `257 + i` with extra value `e` (R112). -/
def lenInstr (i e : Nat) : Instr :=
  match i with
  | 0 => .len257
  | 1 => .len258
  | 2 => .len259
  | 3 => .len260
  | 4 => .len261
  | 5 => .len262
  | 6 => .len263
  | 7 => .len264
  | 8 => .len265 (BitVec.ofNat 1 e)
  | 9 => .len266 (BitVec.ofNat 1 e)
  | 10 => .len267 (BitVec.ofNat 1 e)
  | 11 => .len268 (BitVec.ofNat 1 e)
  | 12 => .len269 (BitVec.ofNat 2 e)
  | 13 => .len270 (BitVec.ofNat 2 e)
  | 14 => .len271 (BitVec.ofNat 2 e)
  | 15 => .len272 (BitVec.ofNat 2 e)
  | 16 => .len273 (BitVec.ofNat 3 e)
  | 17 => .len274 (BitVec.ofNat 3 e)
  | 18 => .len275 (BitVec.ofNat 3 e)
  | 19 => .len276 (BitVec.ofNat 3 e)
  | 20 => .len277 (BitVec.ofNat 4 e)
  | 21 => .len278 (BitVec.ofNat 4 e)
  | 22 => .len279 (BitVec.ofNat 4 e)
  | 23 => .len280 (BitVec.ofNat 4 e)
  | 24 => .len281 (BitVec.ofNat 5 e)
  | 25 => .len282 (BitVec.ofNat 5 e)
  | 26 => .len283 (BitVec.ofNat 5 e)
  | 27 => .len284 (BitVec.ofNat 5 e)
  | _ => .len285

/-- The distance element of symbol `j` with extra value `x` (R114), and the two reserved ones (R120). -/
def distInstr (j x : Nat) : Instr :=
  match j with
  | 0 => .dist0
  | 1 => .dist1
  | 2 => .dist2
  | 3 => .dist3
  | 4 => .dist4 (BitVec.ofNat 1 x)
  | 5 => .dist5 (BitVec.ofNat 1 x)
  | 6 => .dist6 (BitVec.ofNat 2 x)
  | 7 => .dist7 (BitVec.ofNat 2 x)
  | 8 => .dist8 (BitVec.ofNat 3 x)
  | 9 => .dist9 (BitVec.ofNat 3 x)
  | 10 => .dist10 (BitVec.ofNat 4 x)
  | 11 => .dist11 (BitVec.ofNat 4 x)
  | 12 => .dist12 (BitVec.ofNat 5 x)
  | 13 => .dist13 (BitVec.ofNat 5 x)
  | 14 => .dist14 (BitVec.ofNat 6 x)
  | 15 => .dist15 (BitVec.ofNat 6 x)
  | 16 => .dist16 (BitVec.ofNat 7 x)
  | 17 => .dist17 (BitVec.ofNat 7 x)
  | 18 => .dist18 (BitVec.ofNat 8 x)
  | 19 => .dist19 (BitVec.ofNat 8 x)
  | 20 => .dist20 (BitVec.ofNat 9 x)
  | 21 => .dist21 (BitVec.ofNat 9 x)
  | 22 => .dist22 (BitVec.ofNat 10 x)
  | 23 => .dist23 (BitVec.ofNat 10 x)
  | 24 => .dist24 (BitVec.ofNat 11 x)
  | 25 => .dist25 (BitVec.ofNat 11 x)
  | 26 => .dist26 (BitVec.ofNat 12 x)
  | 27 => .dist27 (BitVec.ofNat 12 x)
  | 28 => .dist28 (BitVec.ofNat 13 x)
  | 29 => .dist29 (BitVec.ofNat 13 x)
  | 30 => .reservedDist30
  | _ => .reservedDist31

/-- The element of literal/length symbol `s` with the bits `e` after its code (R100). -/
def symbolInstr (s e : Nat) : Instr :=
  if s < 256 then litInstr (BitVec.ofNat 8 s)
  else if s = 256 then .eob
  else if s ≤ 285 then lenInstr (s - 257) e
  else if s = 286 then .reservedLitlen286
  else .reservedLitlen287

/-- The block header of `BTYPE` with `BFINAL = f` (R97). -/
def blockInstr (btype : Nat) (f : BitVec 1) : Instr :=
  match btype with
  | 0 => .blkStored f
  | 1 => .blkFixed f
  | 2 => .blkDynamic f
  | _ => .blkReserved f

/-- `ID1 ID2 CM` as the little-endian integer of `IN[0..3)` (R91). -/
def gzMagic : Nat := 0x088B1F

/-- The optional field skipped first among those `FLG` announces (R92, R93). -/
def decodeGzopt (w : Nat) : Except Reject Instr :=
  if w.testBit 2 then .ok .gzoptFextra
  else if w.testBit 3 then .ok .gzoptFname
  else if w.testBit 4 then .ok .gzoptFcomment
  else if w.testBit 1 then .ok .gzoptFhcrc
  else .error .noOptionalField

/-- An instruction whose operand is a bit count, if the count is in range (U11). -/
def withBitCount (n : Nat) (i : Instr) : Except Reject Instr :=
  if bitCountOk n then .ok i else .error .bitCount

/-- Unit-operation words: bits 7:0 are the select code of R132, the operands follow in the model's own layout (log entry
4). A match's length is stored less 3 and its distance less 1. -/
def decodeUop (w : Nat) : Except Reject Instr :=
  match w % 256 with
  | 0x10 => .ok .bwInit
  | 0x11 => withBitCount (w / 2 ^ 8 % 32) (.bwWritebits (w / 2 ^ 13) (w / 2 ^ 8 % 32))
  | 0x12 => .ok .bwAlign
  | 0x13 => .ok (.bwAppendbyte (BitVec.ofNat 8 (w / 2 ^ 8)))
  | 0x20 => .ok (.brInit (leBytes (w / 2 ^ 8 % 2 ^ 32) (w / 2 ^ 40)))
  | 0x21 => withBitCount (w / 2 ^ 8 % 32) (.brReadbits (w / 2 ^ 8 % 32))
  | 0x22 => withBitCount (w / 2 ^ 8 % 32) (.brPeekbits (w / 2 ^ 8 % 32))
  | 0x23 => .ok .brAlign
  | 0x24 => withBitCount (w / 2 ^ 8 % 32) (.brSkipbits (w / 2 ^ 8 % 32))
  | 0x30 => .ok .crcInit
  | 0x31 => .ok (.crcUpdate (BitVec.ofNat 8 (w / 2 ^ 8)))
  | 0x32 => .ok .crcFinal
  | 0x40 => if w / 2 ^ 8 % 512 < Config.litlenSyms then .ok (.heLitlen (w / 2 ^ 8 % 512)) else .error .symbolRange
  | 0x41 => .ok (.heDist (w / 2 ^ 8 % 32))
  | 0x50 => .ok .hdLitlen
  | 0x51 => .ok .hdDist
  | 0x60 => .ok (.tkInsert (w / 2 ^ 8))
  | 0x61 => .ok (.tkFindmatch (w / 2 ^ 8))
  | 0x62 => .ok .tkTokenize
  | 0x70 => .ok .encBlock
  | 0x71 => .ok (.encLiteral (BitVec.ofNat 8 (w / 2 ^ 8)))
  | 0x72 => .ok (.encMatch (w / 2 ^ 8 % 256 + 3) (w / 2 ^ 16 % 32768 + 1))
  | 0x73 => .ok .encEob
  | 0x80 => .ok .decInflate
  | 0x81 => .ok .decBlkhdr
  | 0x82 => .ok .decStored
  | 0x83 => .ok .decFixed
  | 0x84 => .ok (.decCopy (w / 2 ^ 8 % 256 + 3) (w / 2 ^ 16 % 32768 + 1))
  | 0x90 => .ok .gzWritehdr
  | 0x91 => .ok .gzWriteftr
  | 0x92 => .ok .gzParsehdr
  | 0x93 => .ok .gzCheckftr
  | _ => .error .uopCode

/-- The gzip header, ten bytes (R91). -/
def decodeGzhdr (w : Nat) : Except Reject Instr :=
  if w % 2 ^ 24 = gzMagic then
    .ok (.gzhdr (BitVec.ofNat 8 (w / 2 ^ 24)) (BitVec.ofNat 32 (w / 2 ^ 32)) (BitVec.ofNat 8 (w / 2 ^ 64))
      (BitVec.ofNat 8 (w / 2 ^ 72)))
  else .error .badMagic

/-- The decoder. A literal/length code is read through `LITLEN_DEC9` (R175, R177) and a distance code by reversal (R176,
R179). -/
def decode (f : Format) (w : Nat) : Except Reject Instr :=
  match f with
  | .litlen => .ok (symbolInstr (litlenDec9 (w % 512)).1 (w / 2 ^ (litlenDec9 (w % 512)).2))
  | .dist => .ok (distInstr (rev (w % 32) 5) (w / 32))
  | .blkhdr => .ok (blockInstr (w / 2 % 4) (BitVec.ofNat 1 w))
  | .stored => .ok (.storedBody (BitVec.ofNat 16 w) (BitVec.ofNat 16 (w / 2 ^ 16)))
  | .gzhdr => decodeGzhdr w
  | .gzopt => decodeGzopt w
  | .gzftr => .ok (.gzftr (BitVec.ofNat 32 w) (BitVec.ofNat 32 (w / 2 ^ 32)))
  | .cmd =>
    match w % 4 with
    | 0 => .ok .cmdNone
    | 1 => .ok .compress
    | 2 => .ok .decompress
    | _ => .ok .cmdReserved
  | .uop => decodeUop w

/-! ### The encoder -/

/-- An encoded instruction: its width in bits and its word. -/
structure Encoded where
  width : Nat
  word : Nat
deriving DecidableEq, Repr

/-- The code of literal/length symbol `s`, most significant bit first (R101, R63), then its extra bits `e` (R102). -/
def encodeLitlen (s e : Nat) : Encoded where
  width := (litlenCode s).2 + lenExtra (s - 257)
  word := rev (litlenCode s).1 (litlenCode s).2 + e * 2 ^ (litlenCode s).2

/-- The code of distance symbol `j`, then its extra bits `x` (R102). -/
def encodeDist (j x : Nat) : Encoded where
  width := 5 + distExtra j
  word := rev j 5 + x * 2 ^ 5

/-- BFINAL, then BTYPE least significant bit first (R96, R64). -/
def encodeBlock (btype : Nat) (f : BitVec 1) : Encoded where
  width := 3
  word := f.toNat + btype * 2

/-- A unit operation: its select code, then `k` operand bits (log entry 4). -/
def encodeUop (code k operand : Nat) : Encoded where
  width := 8 + k
  word := code + operand * 2 ^ 8

/-- The encoder: the words of an instruction, from the tables of spec/30_encoding.md. -/
def encode (i : Instr) : Encoded :=
  match i with
  | .len257 => encodeLitlen 257 0
  | .len258 => encodeLitlen 258 0
  | .len259 => encodeLitlen 259 0
  | .len260 => encodeLitlen 260 0
  | .len261 => encodeLitlen 261 0
  | .len262 => encodeLitlen 262 0
  | .len263 => encodeLitlen 263 0
  | .len264 => encodeLitlen 264 0
  | .len265 e => encodeLitlen 265 e.toNat
  | .len266 e => encodeLitlen 266 e.toNat
  | .len267 e => encodeLitlen 267 e.toNat
  | .len268 e => encodeLitlen 268 e.toNat
  | .len269 e => encodeLitlen 269 e.toNat
  | .len270 e => encodeLitlen 270 e.toNat
  | .len271 e => encodeLitlen 271 e.toNat
  | .len272 e => encodeLitlen 272 e.toNat
  | .len273 e => encodeLitlen 273 e.toNat
  | .len274 e => encodeLitlen 274 e.toNat
  | .len275 e => encodeLitlen 275 e.toNat
  | .len276 e => encodeLitlen 276 e.toNat
  | .len277 e => encodeLitlen 277 e.toNat
  | .len278 e => encodeLitlen 278 e.toNat
  | .len279 e => encodeLitlen 279 e.toNat
  | .len280 e => encodeLitlen 280 e.toNat
  | .len281 e => encodeLitlen 281 e.toNat
  | .len282 e => encodeLitlen 282 e.toNat
  | .len283 e => encodeLitlen 283 e.toNat
  | .len284 e => encodeLitlen 284 e.toNat
  | .len285 => encodeLitlen 285 0
  | .dist0 => encodeDist 0 0
  | .dist1 => encodeDist 1 0
  | .dist2 => encodeDist 2 0
  | .dist3 => encodeDist 3 0
  | .dist4 x => encodeDist 4 x.toNat
  | .dist5 x => encodeDist 5 x.toNat
  | .dist6 x => encodeDist 6 x.toNat
  | .dist7 x => encodeDist 7 x.toNat
  | .dist8 x => encodeDist 8 x.toNat
  | .dist9 x => encodeDist 9 x.toNat
  | .dist10 x => encodeDist 10 x.toNat
  | .dist11 x => encodeDist 11 x.toNat
  | .dist12 x => encodeDist 12 x.toNat
  | .dist13 x => encodeDist 13 x.toNat
  | .dist14 x => encodeDist 14 x.toNat
  | .dist15 x => encodeDist 15 x.toNat
  | .dist16 x => encodeDist 16 x.toNat
  | .dist17 x => encodeDist 17 x.toNat
  | .dist18 x => encodeDist 18 x.toNat
  | .dist19 x => encodeDist 19 x.toNat
  | .dist20 x => encodeDist 20 x.toNat
  | .dist21 x => encodeDist 21 x.toNat
  | .dist22 x => encodeDist 22 x.toNat
  | .dist23 x => encodeDist 23 x.toNat
  | .dist24 x => encodeDist 24 x.toNat
  | .dist25 x => encodeDist 25 x.toNat
  | .dist26 x => encodeDist 26 x.toNat
  | .dist27 x => encodeDist 27 x.toNat
  | .dist28 x => encodeDist 28 x.toNat
  | .dist29 x => encodeDist 29 x.toNat
  | .reservedDist30 => encodeDist 30 0
  | .reservedDist31 => encodeDist 31 0
  | .blkStored f => encodeBlock 0 f
  | .blkFixed f => encodeBlock 1 f
  | .blkDynamic f => encodeBlock 2 f
  | .blkReserved f => encodeBlock 3 f
  | .storedBody len nlen => ⟨32, len.toNat + nlen.toNat * 2 ^ 16⟩
  | .gzhdr flg mtime xfl os => ⟨80, gzMagic + flg.toNat * 2 ^ 24 + mtime.toNat * 2 ^ 32 + xfl.toNat * 2 ^ 64 + os.toNat * 2 ^ 72⟩
  | .gzoptFextra => ⟨8, 0x04⟩
  | .gzoptFname => ⟨8, 0x08⟩
  | .gzoptFcomment => ⟨8, 0x10⟩
  | .gzoptFhcrc => ⟨8, 0x02⟩
  | .gzftr crc size => ⟨64, crc.toNat + size.toNat * 2 ^ 32⟩
  | .cmdNone => ⟨2, 0⟩
  | .compress => ⟨2, 1⟩
  | .decompress => ⟨2, 2⟩
  | .cmdReserved => ⟨2, 3⟩
  | .bwInit => encodeUop 0x10 0 0
  | .bwWritebits value n => encodeUop 0x11 (5 + (Nat.log2 value + 1)) (n + value * 2 ^ 5)
  | .bwAlign => encodeUop 0x12 0 0
  | .bwAppendbyte b => encodeUop 0x13 8 b.toNat
  | .brInit src => encodeUop 0x20 (32 + 8 * src.length) (src.length + leNat src * 2 ^ 32)
  | .brReadbits n => encodeUop 0x21 5 n
  | .brPeekbits n => encodeUop 0x22 5 n
  | .brAlign => encodeUop 0x23 0 0
  | .brSkipbits n => encodeUop 0x24 5 n
  | .crcInit => encodeUop 0x30 0 0
  | .crcUpdate b => encodeUop 0x31 8 b.toNat
  | .crcFinal => encodeUop 0x32 0 0
  | .heLitlen sym => encodeUop 0x40 9 sym
  | .heDist d => encodeUop 0x41 5 d
  | .hdLitlen => encodeUop 0x50 0 0
  | .hdDist => encodeUop 0x51 0 0
  | .tkInsert c => encodeUop 0x60 (Nat.log2 c + 1) c
  | .tkFindmatch q => encodeUop 0x61 (Nat.log2 q + 1) q
  | .tkTokenize => encodeUop 0x62 0 0
  | .encBlock => encodeUop 0x70 0 0
  | .encLiteral b => encodeUop 0x71 8 b.toNat
  | .encMatch len dist => encodeUop 0x72 23 (len - 3 + (dist - 1) * 2 ^ 8)
  | .encEob => encodeUop 0x73 0 0
  | .decInflate => encodeUop 0x80 0 0
  | .decBlkhdr => encodeUop 0x81 0 0
  | .decStored => encodeUop 0x82 0 0
  | .decFixed => encodeUop 0x83 0 0
  | .decCopy len dist => encodeUop 0x84 23 (len - 3 + (dist - 1) * 2 ^ 8)
  | .gzWritehdr => encodeUop 0x90 0 0
  | .gzWriteftr => encodeUop 0x91 0 0
  | .gzParsehdr => encodeUop 0x92 0 0
  | .gzCheckftr => encodeUop 0x93 0 0
  | .lit00 => encodeLitlen 0 0
  | .lit01 => encodeLitlen 1 0
  | .lit02 => encodeLitlen 2 0
  | .lit03 => encodeLitlen 3 0
  | .lit04 => encodeLitlen 4 0
  | .lit05 => encodeLitlen 5 0
  | .lit06 => encodeLitlen 6 0
  | .lit07 => encodeLitlen 7 0
  | .lit08 => encodeLitlen 8 0
  | .lit09 => encodeLitlen 9 0
  | .lit0A => encodeLitlen 10 0
  | .lit0B => encodeLitlen 11 0
  | .lit0C => encodeLitlen 12 0
  | .lit0D => encodeLitlen 13 0
  | .lit0E => encodeLitlen 14 0
  | .lit0F => encodeLitlen 15 0
  | .lit10 => encodeLitlen 16 0
  | .lit11 => encodeLitlen 17 0
  | .lit12 => encodeLitlen 18 0
  | .lit13 => encodeLitlen 19 0
  | .lit14 => encodeLitlen 20 0
  | .lit15 => encodeLitlen 21 0
  | .lit16 => encodeLitlen 22 0
  | .lit17 => encodeLitlen 23 0
  | .lit18 => encodeLitlen 24 0
  | .lit19 => encodeLitlen 25 0
  | .lit1A => encodeLitlen 26 0
  | .lit1B => encodeLitlen 27 0
  | .lit1C => encodeLitlen 28 0
  | .lit1D => encodeLitlen 29 0
  | .lit1E => encodeLitlen 30 0
  | .lit1F => encodeLitlen 31 0
  | .lit20 => encodeLitlen 32 0
  | .lit21 => encodeLitlen 33 0
  | .lit22 => encodeLitlen 34 0
  | .lit23 => encodeLitlen 35 0
  | .lit24 => encodeLitlen 36 0
  | .lit25 => encodeLitlen 37 0
  | .lit26 => encodeLitlen 38 0
  | .lit27 => encodeLitlen 39 0
  | .lit28 => encodeLitlen 40 0
  | .lit29 => encodeLitlen 41 0
  | .lit2A => encodeLitlen 42 0
  | .lit2B => encodeLitlen 43 0
  | .lit2C => encodeLitlen 44 0
  | .lit2D => encodeLitlen 45 0
  | .lit2E => encodeLitlen 46 0
  | .lit2F => encodeLitlen 47 0
  | .lit30 => encodeLitlen 48 0
  | .lit31 => encodeLitlen 49 0
  | .lit32 => encodeLitlen 50 0
  | .lit33 => encodeLitlen 51 0
  | .lit34 => encodeLitlen 52 0
  | .lit35 => encodeLitlen 53 0
  | .lit36 => encodeLitlen 54 0
  | .lit37 => encodeLitlen 55 0
  | .lit38 => encodeLitlen 56 0
  | .lit39 => encodeLitlen 57 0
  | .lit3A => encodeLitlen 58 0
  | .lit3B => encodeLitlen 59 0
  | .lit3C => encodeLitlen 60 0
  | .lit3D => encodeLitlen 61 0
  | .lit3E => encodeLitlen 62 0
  | .lit3F => encodeLitlen 63 0
  | .lit40 => encodeLitlen 64 0
  | .lit41 => encodeLitlen 65 0
  | .lit42 => encodeLitlen 66 0
  | .lit43 => encodeLitlen 67 0
  | .lit44 => encodeLitlen 68 0
  | .lit45 => encodeLitlen 69 0
  | .lit46 => encodeLitlen 70 0
  | .lit47 => encodeLitlen 71 0
  | .lit48 => encodeLitlen 72 0
  | .lit49 => encodeLitlen 73 0
  | .lit4A => encodeLitlen 74 0
  | .lit4B => encodeLitlen 75 0
  | .lit4C => encodeLitlen 76 0
  | .lit4D => encodeLitlen 77 0
  | .lit4E => encodeLitlen 78 0
  | .lit4F => encodeLitlen 79 0
  | .lit50 => encodeLitlen 80 0
  | .lit51 => encodeLitlen 81 0
  | .lit52 => encodeLitlen 82 0
  | .lit53 => encodeLitlen 83 0
  | .lit54 => encodeLitlen 84 0
  | .lit55 => encodeLitlen 85 0
  | .lit56 => encodeLitlen 86 0
  | .lit57 => encodeLitlen 87 0
  | .lit58 => encodeLitlen 88 0
  | .lit59 => encodeLitlen 89 0
  | .lit5A => encodeLitlen 90 0
  | .lit5B => encodeLitlen 91 0
  | .lit5C => encodeLitlen 92 0
  | .lit5D => encodeLitlen 93 0
  | .lit5E => encodeLitlen 94 0
  | .lit5F => encodeLitlen 95 0
  | .lit60 => encodeLitlen 96 0
  | .lit61 => encodeLitlen 97 0
  | .lit62 => encodeLitlen 98 0
  | .lit63 => encodeLitlen 99 0
  | .lit64 => encodeLitlen 100 0
  | .lit65 => encodeLitlen 101 0
  | .lit66 => encodeLitlen 102 0
  | .lit67 => encodeLitlen 103 0
  | .lit68 => encodeLitlen 104 0
  | .lit69 => encodeLitlen 105 0
  | .lit6A => encodeLitlen 106 0
  | .lit6B => encodeLitlen 107 0
  | .lit6C => encodeLitlen 108 0
  | .lit6D => encodeLitlen 109 0
  | .lit6E => encodeLitlen 110 0
  | .lit6F => encodeLitlen 111 0
  | .lit70 => encodeLitlen 112 0
  | .lit71 => encodeLitlen 113 0
  | .lit72 => encodeLitlen 114 0
  | .lit73 => encodeLitlen 115 0
  | .lit74 => encodeLitlen 116 0
  | .lit75 => encodeLitlen 117 0
  | .lit76 => encodeLitlen 118 0
  | .lit77 => encodeLitlen 119 0
  | .lit78 => encodeLitlen 120 0
  | .lit79 => encodeLitlen 121 0
  | .lit7A => encodeLitlen 122 0
  | .lit7B => encodeLitlen 123 0
  | .lit7C => encodeLitlen 124 0
  | .lit7D => encodeLitlen 125 0
  | .lit7E => encodeLitlen 126 0
  | .lit7F => encodeLitlen 127 0
  | .lit80 => encodeLitlen 128 0
  | .lit81 => encodeLitlen 129 0
  | .lit82 => encodeLitlen 130 0
  | .lit83 => encodeLitlen 131 0
  | .lit84 => encodeLitlen 132 0
  | .lit85 => encodeLitlen 133 0
  | .lit86 => encodeLitlen 134 0
  | .lit87 => encodeLitlen 135 0
  | .lit88 => encodeLitlen 136 0
  | .lit89 => encodeLitlen 137 0
  | .lit8A => encodeLitlen 138 0
  | .lit8B => encodeLitlen 139 0
  | .lit8C => encodeLitlen 140 0
  | .lit8D => encodeLitlen 141 0
  | .lit8E => encodeLitlen 142 0
  | .lit8F => encodeLitlen 143 0
  | .lit90 => encodeLitlen 144 0
  | .lit91 => encodeLitlen 145 0
  | .lit92 => encodeLitlen 146 0
  | .lit93 => encodeLitlen 147 0
  | .lit94 => encodeLitlen 148 0
  | .lit95 => encodeLitlen 149 0
  | .lit96 => encodeLitlen 150 0
  | .lit97 => encodeLitlen 151 0
  | .lit98 => encodeLitlen 152 0
  | .lit99 => encodeLitlen 153 0
  | .lit9A => encodeLitlen 154 0
  | .lit9B => encodeLitlen 155 0
  | .lit9C => encodeLitlen 156 0
  | .lit9D => encodeLitlen 157 0
  | .lit9E => encodeLitlen 158 0
  | .lit9F => encodeLitlen 159 0
  | .litA0 => encodeLitlen 160 0
  | .litA1 => encodeLitlen 161 0
  | .litA2 => encodeLitlen 162 0
  | .litA3 => encodeLitlen 163 0
  | .litA4 => encodeLitlen 164 0
  | .litA5 => encodeLitlen 165 0
  | .litA6 => encodeLitlen 166 0
  | .litA7 => encodeLitlen 167 0
  | .litA8 => encodeLitlen 168 0
  | .litA9 => encodeLitlen 169 0
  | .litAA => encodeLitlen 170 0
  | .litAB => encodeLitlen 171 0
  | .litAC => encodeLitlen 172 0
  | .litAD => encodeLitlen 173 0
  | .litAE => encodeLitlen 174 0
  | .litAF => encodeLitlen 175 0
  | .litB0 => encodeLitlen 176 0
  | .litB1 => encodeLitlen 177 0
  | .litB2 => encodeLitlen 178 0
  | .litB3 => encodeLitlen 179 0
  | .litB4 => encodeLitlen 180 0
  | .litB5 => encodeLitlen 181 0
  | .litB6 => encodeLitlen 182 0
  | .litB7 => encodeLitlen 183 0
  | .litB8 => encodeLitlen 184 0
  | .litB9 => encodeLitlen 185 0
  | .litBA => encodeLitlen 186 0
  | .litBB => encodeLitlen 187 0
  | .litBC => encodeLitlen 188 0
  | .litBD => encodeLitlen 189 0
  | .litBE => encodeLitlen 190 0
  | .litBF => encodeLitlen 191 0
  | .litC0 => encodeLitlen 192 0
  | .litC1 => encodeLitlen 193 0
  | .litC2 => encodeLitlen 194 0
  | .litC3 => encodeLitlen 195 0
  | .litC4 => encodeLitlen 196 0
  | .litC5 => encodeLitlen 197 0
  | .litC6 => encodeLitlen 198 0
  | .litC7 => encodeLitlen 199 0
  | .litC8 => encodeLitlen 200 0
  | .litC9 => encodeLitlen 201 0
  | .litCA => encodeLitlen 202 0
  | .litCB => encodeLitlen 203 0
  | .litCC => encodeLitlen 204 0
  | .litCD => encodeLitlen 205 0
  | .litCE => encodeLitlen 206 0
  | .litCF => encodeLitlen 207 0
  | .litD0 => encodeLitlen 208 0
  | .litD1 => encodeLitlen 209 0
  | .litD2 => encodeLitlen 210 0
  | .litD3 => encodeLitlen 211 0
  | .litD4 => encodeLitlen 212 0
  | .litD5 => encodeLitlen 213 0
  | .litD6 => encodeLitlen 214 0
  | .litD7 => encodeLitlen 215 0
  | .litD8 => encodeLitlen 216 0
  | .litD9 => encodeLitlen 217 0
  | .litDA => encodeLitlen 218 0
  | .litDB => encodeLitlen 219 0
  | .litDC => encodeLitlen 220 0
  | .litDD => encodeLitlen 221 0
  | .litDE => encodeLitlen 222 0
  | .litDF => encodeLitlen 223 0
  | .litE0 => encodeLitlen 224 0
  | .litE1 => encodeLitlen 225 0
  | .litE2 => encodeLitlen 226 0
  | .litE3 => encodeLitlen 227 0
  | .litE4 => encodeLitlen 228 0
  | .litE5 => encodeLitlen 229 0
  | .litE6 => encodeLitlen 230 0
  | .litE7 => encodeLitlen 231 0
  | .litE8 => encodeLitlen 232 0
  | .litE9 => encodeLitlen 233 0
  | .litEA => encodeLitlen 234 0
  | .litEB => encodeLitlen 235 0
  | .litEC => encodeLitlen 236 0
  | .litED => encodeLitlen 237 0
  | .litEE => encodeLitlen 238 0
  | .litEF => encodeLitlen 239 0
  | .litF0 => encodeLitlen 240 0
  | .litF1 => encodeLitlen 241 0
  | .litF2 => encodeLitlen 242 0
  | .litF3 => encodeLitlen 243 0
  | .litF4 => encodeLitlen 244 0
  | .litF5 => encodeLitlen 245 0
  | .litF6 => encodeLitlen 246 0
  | .litF7 => encodeLitlen 247 0
  | .litF8 => encodeLitlen 248 0
  | .litF9 => encodeLitlen 249 0
  | .litFA => encodeLitlen 250 0
  | .litFB => encodeLitlen 251 0
  | .litFC => encodeLitlen 252 0
  | .litFD => encodeLitlen 253 0
  | .litFE => encodeLitlen 254 0
  | .litFF => encodeLitlen 255 0
  | .eob => encodeLitlen 256 0
  | .reservedLitlen286 => encodeLitlen 286 0
  | .reservedLitlen287 => encodeLitlen 287 0

/-! ### A row of the opcode table, alone -/

/-- The format a bare table word is read in. A word alone does not say its format (the hardware knows it from the
command, the phase and the element before), and one number is a word of several formats: the sparser format is taken
first (log entry 12). -/
def tableFormat (nbits w : Nat) : Format :=
  if nbits = 0 ∨ 64 ≤ nbits then
    if 80 ≤ nbits then .gzhdr else .gzftr
  else if nbits = 8 then
    if (decodeUop w).isOk then .uop
    else if w < 4 then .cmd
    else if w < 8 then .blkhdr
    else if w = 8 ∨ w = 16 then .gzopt
    else if w < 32 then .dist
    else .litlen
  else if 24 ≤ nbits ∧ w % 2 ^ 24 = gzMagic then .gzhdr
  else if w % 2 ^ 16 = 0xFFFF then .stored
  else if w < 32 then .dist
  else .litlen

/-- The instruction the decoder reads from a bare table word. -/
def decodeTableWord (nbits w : Nat) : Option Instr :=
  (decode (tableFormat nbits (w % 2 ^ nbits)) (w % 2 ^ nbits)).toOption

end Sys2Proof
end

