-- ==== Sys2Proof/Machine/State.lean ====
section
/-! DEFINITION. The state of `CORE` as plain data (spec/10_state.md R20 to R44), the reasons a step stops, and the state
after reset. The model's own fields (`expect`, `uops`, `result`, `free`, `inbox`, `dec.len`, `gz.opt`, `br.held`) are
marked in their docstrings and logged. -/

namespace Sys2Proof.Machine

/-- A sparse table: key and value pairs. Canonical form: keys strictly rising (`Cells.wf`). -/
abbrev Cells (α : Type) := List (Nat × α)

/-- The random-access memory `IN` (R25, R60): the listed addresses are the bytes the host has written; an unlisted
address holds no value (log entry 7). -/
abbrev Memory := List Host.Cell

/-- `PHASE` (R40). -/
inductive Phase where
  | idle
  | cTokenize
  | cEncode
  | cFrame
  | dHeader
  | dInflate
  | dFooter
deriving DecidableEq, Repr

/-- The ten error kinds (R300), in code order. -/
inductive ErrKind where
  | tooShort
  | badHeader
  | badFieldLen
  | truncated
  | badBlockType
  | lenNlen
  | badDistance
  | badSymbol
  | crcMismatch
  | sizeMismatch
deriving DecidableEq, Repr

/-- A token (R37): a literal byte, or a match of a length and a distance. -/
inductive Token where
  | lit (b : Byte)
  | mtch (len dist : Nat)
deriving DecidableEq, Repr

/-- `bitstream_writer` (R27): the byte buffer, the sub-byte accumulator and its count of pending bits. -/
structure BW where
  buf : List Byte
  acc : Byte
  cnt : Nat
deriving DecidableEq, Repr

/-- `bitstream_reader`: `src` and `bitpos` are R29's; `held` is R30's `BR.cnt`, the bits loaded and not yet consumed.
R30's `cursor` and `acc` are determined by these three (`BR.cursor`, `BR.acc`; log entry 20). -/
structure BR where
  src : List Byte
  bitpos : Nat
  held : Nat
deriving DecidableEq, Repr

/-- `lz77_tokenizer` (R36), and the token queue to the encoder (R37). An absent entry of `HEAD` or `PREV` is `NIL`. -/
structure TK where
  head : Cells Nat
  prev : Cells Nat
  ins : Nat
  p : Nat
  queue : List Token
deriving DecidableEq, Repr

/-- `deflate_fixed_decoder` (R38). `len` holds the match length between a length element and its distance element. -/
structure DEC where
  bfinal : BitVec 1
  btype : BitVec 2
  len : Nat
deriving DecidableEq, Repr

/-- `gzip_framer` (R39). `opt` (the model's): the `FLG` bits of the optional fields not yet skipped. -/
structure GZ where
  flg : Byte
  pos : Nat
  endPos : Nat
  crcExpect : Word32
  sizeExpect : Word32
  opt : Byte
deriving DecidableEq, Repr

/-- The stream element that `DECOMPRESS` decodes next (the model's sequencer, log entry 3). -/
inductive Expect where
  | nothing
  | gzhdr
  | gzopt
  | blkhdr
  | stored
  | litlen
  | dist
  | gzftr
deriving DecidableEq, Repr

/-- The value a unit operation returns to its caller (the model's latch, log entry 5). -/
inductive UopResult where
  | empty
  | value (v : Nat)
  | found (len dist : Nat)
  | notFound
deriving DecidableEq, Repr

/-- What the host does at the interface of R22 (and R60, for its reads of `IN`), and `turn`, by which the host waits while the core takes one step. -/
inductive HostEvent where
  | writeIn (a : Nat) (b : Byte)
  | writeInLen (n : Nat)
  | writeCmd (c : BitVec 2)
  | readStatus
  | readIn (a : Nat)
  | readOutLen
  | readOut (a : Nat)
  | reset
  | turn
deriving DecidableEq, Repr

/-- The state of `CORE`, and what the host has still to do. -/
structure State where
  /-- `HOST.CMD` (R22). -/
  cmd : BitVec 2
  /-- `HOST.STATUS` (R23). -/
  status : BitVec 8
  /-- `HOST.IN_LEN` (R22). -/
  inLen : Nat
  /-- `HOST.OUT_LEN` (R22). -/
  outLen : Nat
  /-- `IN` (R25). -/
  inBuf : Memory
  /-- `OUT` (R26), but for the member `COMPRESS` is building, whose bytes `bw.buf` stores (`State.outBytes`, log entry 27). -/
  out : List Byte
  /-- `n`, the `IN_LEN` latched at command start (R260). -/
  n : Nat
  /-- `PHASE` (R40). -/
  phase : Phase
  bw : BW
  br : BR
  /-- `CRC.crc` (R31). -/
  crc : Word32
  tk : TK
  dec : DEC
  gz : GZ
  /-- The model's: the stream element expected next. -/
  expect : Expect
  /-- The model's: the words of the unit operations the sequencer has still to run. -/
  uops : List Nat
  /-- The model's: what the last returning unit operation returned. -/
  result : UopResult
  /-- The model's: how many free values have been drawn. -/
  free : Nat
  /-- The model's: what the host does next, earliest first. -/
  inbox : List HostEvent
deriving DecidableEq, Repr

/-- Why the machine stops with a fault. -/
inductive Fault where
  /-- Raised by every operation that reads `IN` when some byte of `IN[0..n)` was never written by the host (R343 step
  2 not done; U10). Safe: the machine stops where the hardware would read an unspecified byte. -/
  | inUnwritten
deriving DecidableEq, Repr

/-- Why the model gives a step no meaning. All are safe: the model stops. -/
inductive Refusal where
  /-- An arm of `exec` without a meaning yet. -/
  | notModelled (mnemonic : String)
  /-- `CMD_RESERVED`: "`CMD = 0b11` ... is refused" (R131, U3). -/
  | cmdReserved
  /-- A command written while `BUSY = 1` (R131, U3). -/
  | cmdWhileBusy
  /-- `IN` or `IN_LEN` written while `BUSY = 1` (R71, R355, U7). -/
  | hostWriteWhileBusy
  /-- `OUT` or `OUT_LEN` read before `DONE = 1` (R355, U7). -/
  | hostReadBeforeDone
  /-- A bit count outside 0..16 (R141, R146, U11). -/
  | bitCount
  /-- A symbol outside the alphabet given to `HE.LITLEN` or `HE.DIST` (R173, R174). -/
  | symbolRange
  /-- `ENC.MATCH`, `ENC.BLOCK` or `DEC.COPY` given a length or distance outside its range (U12). -/
  | matchRange
  /-- A byte-aligned write (`BW.APPENDBYTE`, `ENC.BLOCK`, `GZ.WRITEHDR`, `GZ.WRITEFTR`) with `BW.cnt != 0` (R142, R210, R264). -/
  | unaligned
  /-- `TK.INSERT(c)` with `c != TK.ins`: "inserting a position twice is forbidden" (R192). -/
  | insertOrder
  /-- A footer read with `n < 8`: `MemRead` is "Defined only when a + n <= the space's current length" (R12). -/
  | footerRange
  /-- A unit-operation word that no row of the table selects (R132). -/
  | undefinedUop
deriving DecidableEq, Repr

/-- The outcome of one step of this machine. -/
abbrev StepResult := Host.Outcome State Fault Refusal

/-- The machine after reset (R44, R340): `CMD = 0`, `STATUS = 0x00`, `OUT_LEN = 0`, `PHASE = IDLE`. Everything R44 calls
unspecified is zero or empty (DESIGN CHOICE, unsafe, log entry 6); `IN` lists nothing. -/
def State.reset : State where
  cmd := 0
  status := 0
  inLen := 0
  outLen := 0
  inBuf := []
  out := []
  n := 0
  phase := .idle
  bw := ⟨[], 0, 0⟩
  br := ⟨[], 0, 0⟩
  crc := 0
  tk := ⟨[], [], 0, 0, []⟩
  dec := ⟨0, 0, 0⟩
  gz := ⟨0, 0, 0, 0, 0, 0⟩
  expect := .nothing
  uops := []
  result := .empty
  free := 0
  inbox := []

end Sys2Proof.Machine
end

