-- ==== Sys2Proof/Machine/Flags.lean ====
section
/-! DEFINITION. `HOST.STATUS` field by field (spec/10_state.md R23, R24), the error codes and classes
(spec/60_exceptions.md R300, R301) and the `irq` output (R315). No arithmetic operation has a flag side effect (R24). -/

namespace Sys2Proof.Machine

/-- The numeric code of an error kind (R300). -/
def ErrKind.code (e : ErrKind) : BitVec 4 :=
  match e with
  | .tooShort => 1
  | .badHeader => 2
  | .badFieldLen => 3
  | .truncated => 4
  | .badBlockType => 5
  | .lenNlen => 6
  | .badDistance => 7
  | .badSymbol => 8
  | .crcMismatch => 9
  | .sizeMismatch => 10

/-- The classes of error kinds (R301). -/
inductive ErrClass where
  | header
  | stream
  | block
  | footer
deriving DecidableEq, Repr

/-- The class of an error kind (R301). -/
def ErrKind.cls (e : ErrKind) : ErrClass :=
  match e with
  | .badHeader | .badFieldLen => .header
  | .truncated | .tooShort => .stream
  | .badBlockType | .lenNlen | .badDistance | .badSymbol => .block
  | .crcMismatch | .sizeMismatch => .footer

/-- A `STATUS` value: bit 0 `BUSY`, bit 1 `DONE`, bit 2 `ERR`, bit 3 reads 0, bits 7:4 `ERRCODE` (R23). -/
def statusOf (busy done err : Bool) (code : BitVec 4) : BitVec 8 :=
  code ++ (0#1 ++ (BitVec.ofBool err ++ (BitVec.ofBool done ++ BitVec.ofBool busy)))

/-- `STATUS` while a command executes (R260). -/
def statusBusy : BitVec 8 := statusOf true false false 0

/-- `STATUS` after a success (R266). -/
def statusSuccess : BitVec 8 := statusOf false true false 0

/-- `STATUS` after error kind `e` (R266, R320). -/
def statusError (e : ErrKind) : BitVec 8 := statusOf false true true e.code

/-- `STATUS.BUSY` (R23). -/
def State.busy (s : State) : Bool := s.status.getLsbD 0
/-- `STATUS.DONE` (R23). -/
def State.done (s : State) : Bool := s.status.getLsbD 1
/-- `STATUS.ERR` (R23). -/
def State.err (s : State) : Bool := s.status.getLsbD 2
/-- `STATUS.ERRCODE` (R23). -/
def State.errCode (s : State) : BitVec 4 := s.status.extractLsb' 4 4

/-- The level output `irq = STATUS.DONE` (R315). -/
def State.irq (s : State) : Bool := s.done

end Sys2Proof.Machine
end

