-- ==== Sys2Proof/Machine/Ops.lean ====
section
/-! DEFINITION. The named operations over state: sparse tables and the memory `IN`, the bit writer, the bit reader,
command start, command completion, and TAKING AN ERROR as one operation (spec/20_memory.md, spec/40_bitstream.md,
spec/46_gzip_framer.md R260, R266, spec/60_exceptions.md R320). -/

namespace Sys2Proof.Machine

/-! ### Sparse tables: `HEAD`, `PREV` and the memory `IN` -/

/-- The value at a key, if any. -/
def Cells.get {α : Type} (m : Cells α) (k : Nat) : Option α :=
  match m with
  | [] => none
  | (j, v) :: rest => if j = k then some v else Cells.get rest k

/-- Write a key, keeping the keys rising. -/
def Cells.put {α : Type} (m : Cells α) (k : Nat) (v : α) : Cells α :=
  match m with
  | [] => [(k, v)]
  | (j, w) :: rest =>
    if k < j then (k, v) :: (j, w) :: rest
    else if k = j then (k, v) :: rest
    else (j, w) :: Cells.put rest k v

/-- Remove a key. -/
def Cells.erase {α : Type} (m : Cells α) (k : Nat) : Cells α :=
  match m with
  | [] => []
  | (j, w) :: rest => if j = k then rest else (j, w) :: Cells.erase rest k

/-- Write an entry that may be `NIL`: writing `NIL` removes it. -/
def Cells.assign {α : Type} (m : Cells α) (k : Nat) (v : Option α) : Cells α :=
  match v with
  | some w => m.put k w
  | none => m.erase k

/-- Every key is above a bound and the keys rise. -/
def Cells.wfFrom {α : Type} (lo : Nat) (m : Cells α) : Bool :=
  match m with
  | [] => true
  | (j, _) :: rest => lo ≤ j && Cells.wfFrom (j + 1) rest

/-- The canonical form: keys strictly rising. -/
def Cells.wf {α : Type} (m : Cells α) : Bool := Cells.wfFrom 0 m

/-- The canonical form of the memory: addresses strictly rising; an unlisted address holds no value, so no listed entry
can equal it. -/
def Memory.wf (m : Memory) : Bool := Cells.wf (α := BitVec 8) m

/-- The byte at an address of `IN`; `none` where the host has written nothing (log entry 7). -/
def Memory.read (m : Memory) (a : Nat) : Option Byte := Cells.get (α := BitVec 8) m a

/-- Write one byte of `IN`. -/
def Memory.write (m : Memory) (a : Nat) (b : Byte) : Memory := Cells.put (α := BitVec 8) m a b

/-- The bytes at `a .. a+k-1`, if all have been written. -/
def Memory.readBytes (m : Memory) (a : Nat) : Nat → Option (List Byte)
  | 0 => some []
  | k + 1 =>
    match m.read a, Memory.readBytes m (a + 1) k with
    | some b, some bs => some (b :: bs)
    | _, _ => none

/-- Write a byte sequence at `a, a+1, ..`. -/
def Memory.writeBytes (m : Memory) (a : Nat) : List Byte → Memory
  | [] => m
  | b :: bs => Memory.writeBytes (m.write a b) (a + 1) bs

/-- `IN[0..n)` (R25): bytes at and beyond `n` are never read. -/
def State.input (s : State) : Option (List Byte) := s.inBuf.readBytes 0 s.n

/-- Run an operation that reads `IN`; it stops if the host has not written `IN[0..n)`. -/
def withInput (s : State) (k : List Byte → StepResult) : StepResult :=
  match s.input with
  | some d => k d
  | none => .fault .inUnwritten

/-! ### Results of unit operations -/

/-- A unit operation either returns, or ends the command with an error kind (`raise`, R12); it leaves its unit's state
either way. -/
inductive Res (σ α : Type) where
  | ok (a : α) (s : σ)
  | raise (e : ErrKind) (s : σ)
deriving DecidableEq, Repr

/-- Run `f` after `r`, unless `r` raised: nothing after a `raise` executes (R12). -/
def Res.bind {σ α β : Type} (r : Res σ α) (f : α → σ → Res σ β) : Res σ β :=
  match r with
  | .ok a s => f a s
  | .raise e s => .raise e s

/-! ### The bit writer (R140 to R144) -/

/-- The state `BW.INIT` leaves (R140). -/
def BW.empty : BW := ⟨[], 0, 0⟩

/-- Append one bit, flushing a complete byte (the loop body of R141). -/
def BW.putBit (bw : BW) (b : Bool) : BW :=
  let acc := bw.acc ||| ((BitVec.ofBool b).setWidth 8 <<< bw.cnt)
  if bw.cnt + 1 = 8 then ⟨bw.buf ++ [acc], 0, 0⟩ else ⟨bw.buf, acc, bw.cnt + 1⟩

/-- `BW.WRITEBITS(value, n)` (R141): the low `n` bits, bit 0 first. -/
def BW.writeBits (bw : BW) (value : Nat) : Nat → BW
  | 0 => bw
  | n + 1 => BW.writeBits (bw.putBit (value % 2 == 1)) (value / 2) n

/-- `BW.APPENDBYTE(b)` (R142), where `BW.cnt = 0`. -/
def BW.appendByte (bw : BW) (b : Byte) : BW := { bw with buf := bw.buf ++ [b] }

/-- `BW.APPENDBYTE` of each byte in order. -/
def BW.appendBytes (bw : BW) (bs : List Byte) : BW := bs.foldl BW.appendByte bw

/-- `BW.ALIGN` (R143). -/
def BW.align (bw : BW) : BW := if 0 < bw.cnt then ⟨bw.buf ++ [bw.acc], 0, 0⟩ else bw

/-! ### The bit reader (R145 to R151) -/

/-- `BR.INIT(src)` (R145). -/
def BR.init (src : List Byte) : BR := ⟨src, 0, 0⟩

/-- The number of unread bits (R29). -/
def BR.avail (br : BR) : Nat := 8 * br.src.length - br.bitpos

/-- R30's `cursor`, the index of the next byte not yet loaded: `bitpos = 8*cursor - cnt`. -/
def BR.cursor (br : BR) : Nat := (br.bitpos + br.held) / 8

/-- R30's `acc`: the loaded bits, the next unread one least significant. -/
def BR.acc (br : BR) : Nat := bitsAt br.src br.bitpos br.held

/-- Load whole bytes, one at a time, until `n` bits are held or the source is used up (R30). -/
def BR.fill (br : BR) (n : Nat) : BR :=
  { br with held := br.held + 8 * min ((n - br.held + 7) / 8) (br.src.length - br.cursor) }

/-- Consume `n` loaded bits. -/
def BR.advance (br : BR) (n : Nat) : BR := { br with bitpos := br.bitpos + n, held := br.held - n }

/-- `BR.SKIPBITS(n)` (R149). -/
def BR.skipBits (br : BR) (n : Nat) : Res BR Unit :=
  if br.avail < n then .raise .truncated br else .ok () ((br.fill n).advance n)

/-- `BR.READBITS(n)` (R146). -/
def BR.readBits (br : BR) (n : Nat) : Res BR Nat :=
  if br.avail < n then .raise .truncated br
  else .ok (bitsAt br.src br.bitpos n) ((br.fill n).advance n)

/-- The value of `BR.PEEKBITS(n)` (R148): bits past the end are zero. -/
def BR.peekValue (br : BR) (n : Nat) : Nat := bitsAt br.src br.bitpos n

/-- `BR.PEEKBITS(n)` (R148): the value, and the reader with the bits loaded and none consumed. -/
def BR.peekBits (br : BR) (n : Nat) : Nat × BR := (br.peekValue n, br.fill n)

/-- `BR.ALIGN` (R150): the rest of a partly consumed byte is dropped, loaded whole bytes stay. -/
def BR.align (br : BR) : BR := { br with bitpos := 8 * ((br.bitpos + 7) / 8), held := br.held - br.held % 8 }

/-! ### The output -/

/-- The phases of `COMPRESS` (R40). -/
def Phase.compressing (p : Phase) : Bool :=
  match p with
  | .cTokenize | .cEncode | .cFrame => true
  | .idle | .dHeader | .dInflate | .dFooter => false

/-- The address space `OUT` (R60, R26). While `COMPRESS` runs it is the member being built, whose bytes the writer holds: they
are stored once, in `BW.buf` (R262, R264), and R261's `OUT <- BW.buf` ends that (log entry 27). -/
def State.outBytes (s : State) : List Byte := if s.phase.compressing then s.bw.buf else s.out

/-- The part of `OUT` after the 10 header bytes, which R60 and R68 call `BW.buf`: the DEFLATE stream `OUT[10 .. 10+k)` once
`ENC.BLOCK` has aligned (R263; log entry 27). -/
def State.deflateBytes (s : State) : List Byte := s.outBytes.drop Config.headerLen

/-! ### Taking an error, completing and starting a command -/

/-- TAKING AN ERROR (R320, R266): `OUT_LEN <- 0`, `STATUS <- (BUSY=0, DONE=1, ERR=1, ERRCODE)`, `PHASE <- IDLE`, and
nothing later of the command executes. The content of `OUT` is a free value (R26, U6; log entry 8). -/
def raiseError (e : ErrKind) (s : State) : State :=
  { s with
    status := statusError e
    outLen := 0
    phase := .idle
    expect := .nothing
    uops := []
    out := Config.freeOut s.free
    free := s.free + 1 }

/-- Command completion with success (R266): the return to the idle state in which the host may start the next command
(R321). -/
def completeCommand (s : State) : State :=
  { s with status := statusSuccess, outLen := s.out.length, phase := .idle, expect := .nothing, uops := [] }

/-- Command start (R260, R41): status, latched length, empty `OUT`, and every unit's per-call state initialised. R260 gives
the values of `BW`, `HEAD`, `ins` and `p`; those of `PREV` (every entry `NIL`), the token queue, `BR`, `CRC`, `DEC` and `GZ` are
the model's choice (DESIGN CHOICE, log entry 18). -/
def startCommand (s : State) : State :=
  { s with
    status := statusBusy
    n := s.inLen
    out := []
    outLen := 0
    bw := BW.empty
    br := BR.init []
    crc := Config.crcInit
    tk := ⟨[], [], 0, 0, []⟩
    dec := ⟨0, 0, 0⟩
    gz := ⟨0, 0, 0, 0, 0, 0⟩
    expect := .nothing
    uops := []
    result := .empty }

/-- What a unit operation on the reader returned, as a step. -/
def runReader {α : Type} (r : Res BR α) (s : State) (k : α → State → StepResult) : StepResult :=
  match r with
  | .ok a br => k a { s with br := br }
  | .raise e br => .next (raiseError e { s with br := br })

end Sys2Proof.Machine
end

