-- ==== Sys2Proof/Machine/BitIo.lean ====
section
/-! DEFINITION. The meanings of the `bitstream_writer` and `bitstream_reader` operations (spec/40_bitstream.md). A bit count
outside 0..16 is refused (U11). -/

namespace Sys2Proof.Machine

/-- `BW.INIT` (R140). -/
def execBwInit (s : State) : StepResult := .next { s with bw := BW.empty }

/-- `BW.WRITEBITS(value, n)` (R141). -/
def execBwWritebits (value n : Nat) (s : State) : StepResult :=
  if bitCountOk n then .next { s with bw := s.bw.writeBits value n } else .refused .bitCount

/-- `BW.ALIGN` (R143). -/
def execBwAlign (s : State) : StepResult := .next { s with bw := s.bw.align }

/-- `BW.APPENDBYTE(b)` (R142), whose precondition is `BW.cnt == 0`. -/
def execBwAppendbyte (b : Byte) (s : State) : StepResult :=
  if s.bw.cnt = 0 then .next { s with bw := s.bw.appendByte b } else .refused .unaligned

/-- `BR.INIT(src)` (R145). -/
def execBrInit (src : List Byte) (s : State) : StepResult := .next { s with br := BR.init src }

/-- `BR.READBITS(n)` (R146). -/
def execBrReadbits (n : Nat) (s : State) : StepResult :=
  if bitCountOk n then runReader (s.br.readBits n) s fun v t => .next { t with result := .value v }
  else .refused .bitCount

/-- `BR.PEEKBITS(n)` (R148). -/
def execBrPeekbits (n : Nat) (s : State) : StepResult :=
  if bitCountOk n then .next { s with br := s.br.fill n, result := .value (s.br.peekValue n) }
  else .refused .bitCount

/-- `BR.ALIGN` (R150). -/
def execBrAlign (s : State) : StepResult := .next { s with br := s.br.align }

/-- `BR.SKIPBITS(n)` (R149). -/
def execBrSkipbits (n : Nat) (s : State) : StepResult :=
  if bitCountOk n then runReader (s.br.skipBits n) s fun _ t => .next t else .refused .bitCount

end Sys2Proof.Machine
end

