-- ==== Sys2Proof/Machine/Huffman.lean ====
section
/-! DEFINITION. `huffman_encoder` and `huffman_decoder` (spec/42_huffman.md): the units' functions and the meanings of
their operations. -/

namespace Sys2Proof.Machine

/-- `HE.LITLEN(s)` (R173): the code is reversed within its length. -/
def heLitlen (sym : Nat) (bw : BW) : BW := bw.writeBits (rev (litlenCode sym).1 (litlenCode sym).2) (litlenCode sym).2

/-- `HE.DIST(d)` (R174). -/
def heDist (d : Nat) (bw : BW) : BW := bw.writeBits (rev d Config.distCodeLen) Config.distCodeLen

/-- Consume a code of `len` bits that a 9-bit peek has found (R177): it fails only if fewer than `len` bits remain
(R178). -/
def takeCode (len : Nat) (br : BR) : Res BR Unit :=
  if br.avail < len then .raise .truncated (br.fill Config.maxCodeLen)
  else .ok () ((br.fill Config.maxCodeLen).advance len)

/-- `HD.LITLEN` (R177). -/
def hdLitlen (br : BR) : Res BR Nat :=
  let slot := litlenDec9 (br.peekValue Config.maxCodeLen)
  (takeCode slot.2 br).bind fun _ br => .ok slot.1 br

/-- `HD.DIST` (R179). -/
def hdDist (br : BR) : Res BR Nat :=
  (br.readBits Config.distCodeLen).bind fun w br => .ok (rev w Config.distCodeLen) br

/-- `HE.LITLEN(s)` (R173), `s` in 0..287. -/
def execHeLitlen (sym : Nat) (s : State) : StepResult :=
  if sym < Config.litlenSyms then .next { s with bw := heLitlen sym s.bw } else .refused .symbolRange

/-- `HE.DIST(d)` (R174), `d` in 0..31. -/
def execHeDist (d : Nat) (s : State) : StepResult :=
  if d < Config.distSyms then .next { s with bw := heDist d s.bw } else .refused .symbolRange

/-- `HD.LITLEN` (R177). -/
def execHdLitlen (s : State) : StepResult :=
  runReader (hdLitlen s.br) s fun v t => .next { t with result := .value v }

/-- `HD.DIST` (R179). -/
def execHdDist (s : State) : StepResult :=
  runReader (hdDist s.br) s fun v t => .next { t with result := .value v }

end Sys2Proof.Machine
end

