-- ==== Sys2Proof/Machine/Operands.lean ====
section
/-! DEFINITION. Operand assembly: lengths and distances from symbols and extra bits (spec/30_encoding.md R113, R115), the
selection of symbols on encode (spec/44_deflate_fixed_encoder.md R212), and the validity of a token (R37). -/

namespace Sys2Proof.Machine

/-- The length of symbol `257 + i` with extra value `e` (R113). -/
def lengthOf (i e : Nat) : Nat := lenBase i + e

/-- The distance of symbol `j` with extra value `x` (R115). -/
def distanceOf (j x : Nat) : Nat := distBase j + x

/-- How many entries of a rising table of bases are at most `v`, less one: the largest index whose base is not above `v`
(R212). -/
def largestBase (table : List Nat) (v : Nat) : Nat := table.countP (· ≤ v) - 1

/-- The length index `i` of a length (R212). -/
def lenIndex (len : Nat) : Nat := largestBase lenBaseTable len

/-- The distance symbol `j` of a distance (R212). -/
def distIndex (dist : Nat) : Nat := largestBase distBaseTable dist

/-- The ranges of a token's fields (R37). -/
def Token.ok (t : Token) : Bool :=
  match t with
  | .lit _ => true
  | .mtch len dist => matchOk len dist

end Sys2Proof.Machine
end

