-- ==== Sys2Proof/Machine/Decoder.lean ====
section
/-! DEFINITION. `deflate_fixed_decoder` (spec/45_deflate_fixed_decoder.md): the unit's functions over the reader, the output
and the block header, and the meanings of its operations. A loop that needs more bits than the payload has ends in
`E_TRUNCATED` (R147), which is also what each loop answers when its count of available bits is used up. -/

namespace Sys2Proof.Machine

/-- What the decoder works on (R29, R26, R38). -/
structure Inflater where
  br : BR
  out : List Byte
  bfinal : BitVec 1
  btype : BitVec 2
deriving DecidableEq, Repr

/-- The decoder's part of the state. -/
def State.inflater (s : State) : Inflater := ⟨s.br, s.out, s.dec.bfinal, s.dec.btype⟩

/-- Put the decoder's part back. -/
def State.withInflater (s : State) (d : Inflater) : State :=
  { s with br := d.br, out := d.out, dec := { s.dec with bfinal := d.bfinal, btype := d.btype } }

/-- What a decoder operation returned, as a step. -/
def runInflater {α : Type} (r : Res Inflater α) (s : State) (k : α → State → StepResult) : StepResult :=
  match r with
  | .ok a d => k a (s.withInflater d)
  | .raise e d => .next (raiseError e (s.withInflater d))

/-- A reader operation, in the decoder. -/
def onReader {α : Type} (f : BR → Res BR α) (d : Inflater) : Res Inflater α :=
  match f d.br with
  | .ok a br => .ok a { d with br := br }
  | .raise e br => .raise e { d with br := br }

/-- `Append(OUT, b)` (R26). -/
def Inflater.append (d : Inflater) (b : Byte) : Inflater := { d with out := d.out ++ [b] }

/-- The byte-serial copy of R244: each byte is read after the ones before it were appended. -/
def copyMatch (out : List Byte) (dist : Nat) : Nat → List Byte
  | 0 => out
  | len + 1 => copyMatch (out ++ [out.getD (out.length - dist) 0]) dist len

/-- `DEC.BLKHDR` (R231). -/
def readBlockHeader (d : Inflater) : Res Inflater Unit :=
  (onReader (·.readBits 1) d).bind fun f d =>
    (onReader (·.readBits 2) { d with bfinal := BitVec.ofNat 1 f }).bind fun t d =>
      .ok () { d with btype := BitVec.ofNat 2 t }

/-- The stored copy (R238): `k` bytes read and appended. -/
def storedCopy (d : Inflater) : Nat → Res Inflater Unit
  | 0 => .ok () d
  | k + 1 => (onReader (·.readBits 8) d).bind fun b d => storedCopy (d.append (BitVec.ofNat 8 b)) k

/-- The complement check of R237. -/
def lenNlenOk (len nlen : BitVec 16) : Bool := len ^^^ 0xFFFF#16 == nlen

/-- `DEC.STORED` (R237). -/
def readStored (d : Inflater) : Res Inflater Unit :=
  (onReader (·.readBits 16) { d with br := d.br.align }).bind fun len d =>
    (onReader (·.readBits 16) d).bind fun nlen d =>
      if lenNlenOk (BitVec.ofNat 16 len) (BitVec.ofNat 16 nlen) then storedCopy d len else .raise .lenNlen d

/-- The distance check (R245) and the copy (R244). -/
def resolveMatch (len dist : Nat) (d : Inflater) : Res Inflater Unit :=
  if d.out.length < dist then .raise .badDistance d else .ok () { d with out := copyMatch d.out dist len }

/-- The match part of R239, after a length symbol `257 + i`. -/
def readMatch (i : Nat) (d : Inflater) : Res Inflater Unit :=
  (onReader (·.readBits (lenExtra i)) d).bind fun e d =>
    (onReader hdDist d).bind fun j d =>
      if 30 ≤ j then .raise .badSymbol d
      else (onReader (·.readBits (distExtra j)) d).bind fun x d =>
        resolveMatch (lengthOf i e) (distanceOf j x) d

/-- One item of a fixed-Huffman block (the loop body of R239): `true` at end of block (R241). -/
def readFixedItem (d : Inflater) : Res Inflater Bool :=
  (onReader hdLitlen d).bind fun sym d =>
    if sym < 256 then .ok false (d.append (BitVec.ofNat 8 sym))
    else if sym = 256 then .ok true d
    else if 286 ≤ sym then .raise .badSymbol d
    else (readMatch (sym - 257) d).bind fun _ d => .ok false d

/-- R239's loop. -/
def readFixedLoop (d : Inflater) : Nat → Res Inflater Unit
  | 0 => .raise .truncated d
  | fuel + 1 => (readFixedItem d).bind fun done d => if done then .ok () d else readFixedLoop d fuel

/-- `DEC.FIXED` (R239): every item consumes at least 7 bits (R361). -/
def readFixed (d : Inflater) : Res Inflater Unit := readFixedLoop d (d.br.avail + 1)

/-- A block body, by the type just read (R230, R236; a payload of one byte: log entry 31). -/
def readBlockBody (d : Inflater) : Res Inflater Unit :=
  if d.btype = 0 then readStored d else if d.btype = 1 then readFixed d else .raise .badBlockType d

/-- R230's loop. -/
def inflateLoop (d : Inflater) : Nat → Res Inflater Unit
  | 0 => .raise .truncated d
  | fuel + 1 =>
    (readBlockHeader d).bind fun _ d =>
      (readBlockBody d).bind fun _ d => if d.bfinal = 1 then .ok () d else inflateLoop d fuel

/-- `DEC.INFLATE` (R230): every block consumes at least 3 bits (R361). -/
def inflate (d : Inflater) : Res Inflater Unit := inflateLoop d (d.br.avail + 1)

/-- `DEC.INFLATE` (R230). R230 states it for an `OUT` that is empty at the start; on an `OUT` that holds bytes it appends after
them, and distances may reach them (DESIGN CHOICE, log entry 33). -/
def execDecInflate (s : State) : StepResult := runInflater (inflate s.inflater) s fun _ t => .next t

/-- `DEC.BLKHDR` (R231). -/
def execDecBlkhdr (s : State) : StepResult := runInflater (readBlockHeader s.inflater) s fun _ t => .next t

/-- `DEC.STORED` (R237). -/
def execDecStored (s : State) : StepResult := runInflater (readStored s.inflater) s fun _ t => .next t

/-- `DEC.FIXED` (R239). -/
def execDecFixed (s : State) : StepResult := runInflater (readFixed s.inflater) s fun _ t => .next t

/-- `DEC.COPY(len, dist)` (R244), `3 <= len <= 258`, `1 <= dist <= |OUT|`. -/
def execDecCopy (len dist : Nat) (s : State) : StepResult :=
  if matchOk len dist ∧ dist ≤ s.out.length then .next { s with out := copyMatch s.out dist len }
  else .refused .matchRange

end Sys2Proof.Machine
end

