-- ==== Sys2Proof/Machine/Elements.lean ====
section
/-! DEFINITION. What an element of the DEFLATE stream does when `DECOMPRESS` meets it (spec/45_deflate_fixed_decoder.md R231
to R245): the operations that the meanings of the single elements share. Each consumes its own bits, in R311's order,
and sets which element is expected next (log entry 3). -/

namespace Sys2Proof.Machine

/-- The end of a block body: R230's exit test. -/
def endBlock (s : State) : State :=
  if s.dec.bfinal = 1 then { s with expect := .gzftr, phase := .dFooter } else { s with expect := .blkhdr }

/-- Consume the code of literal/length symbol `sym` (R177). -/
def takeSymbol (sym : Nat) (d : Inflater) : Res Inflater Unit := onReader (takeCode (litlenCode sym).2) d

/-- Consume `n` bits whose value the decoded instruction carries (R146). -/
def takeBits (n : Nat) (d : Inflater) : Res Inflater Unit := onReader (·.skipBits n) d

/-- A literal (R240). -/
def literalItem (b : Byte) (s : State) : StepResult :=
  runInflater ((takeSymbol b.toNat s.inflater).bind fun _ d => .ok () (d.append b)) s fun _ t => .next t

/-- End of block (R241). -/
def eobItem (s : State) : StepResult :=
  runInflater (takeSymbol 256 s.inflater) s fun _ t => .next (endBlock t)

/-- Length symbol `257 + i` with extra value `e` (R242): the length waits for its distance. -/
def lengthItem (i e : Nat) (s : State) : StepResult :=
  runInflater ((takeSymbol (257 + i) s.inflater).bind fun _ d => takeBits (lenExtra i) d) s fun _ t =>
    .next { t with dec := { t.dec with len := lengthOf i e }, expect := .dist }

/-- A reserved literal/length symbol (R243): it faults as soon as its code is read. -/
def reservedLitlenItem (sym : Nat) (s : State) : StepResult :=
  runInflater ((takeSymbol sym s.inflater).bind fun _ d => (Res.raise .badSymbol d : Res Inflater Unit)) s fun _ t =>
    .next t

/-- Distance symbol `j` with extra value `x` (R242): the distance check (R245), then the copy of the waiting length
(R244). -/
def distanceItem (j x : Nat) (s : State) : StepResult :=
  runInflater
    ((takeBits Config.distCodeLen s.inflater).bind fun _ d =>
      (takeBits (distExtra j) d).bind fun _ d => resolveMatch s.dec.len (distanceOf j x) d)
    s fun _ t => .next { t with expect := .litlen }

/-- A reserved distance symbol (R243): it faults before any extra bit. -/
def reservedDistItem (s : State) : StepResult :=
  runInflater
    ((takeBits Config.distCodeLen s.inflater).bind fun _ d => (Res.raise .badSymbol d : Res Inflater Unit)) s
    fun _ t => .next t

/-- The three bits of a block header (R231, R96). -/
def takeHeader (btype : BitVec 2) (f : BitVec 1) (d : Inflater) : Res Inflater Unit :=
  (takeBits 1 d).bind fun _ d =>
    (takeBits 2 { d with bfinal := f }).bind fun _ d => .ok () { d with btype := btype }

/-- The header of a block whose body is decoded (R237, R239). -/
def blockItem (btype : BitVec 2) (f : BitVec 1) (body : Expect) (s : State) : StepResult :=
  runInflater (takeHeader btype f s.inflater) s fun _ t => .next { t with expect := body }

/-- The header of an unsupported or reserved block (R236): it faults as soon as the header is read, in a payload of one byte
too, for which R268 and C1 speak of `E_TRUNCATED` (DEDUCED, log entry 31). -/
def badBlockItem (btype : BitVec 2) (f : BitVec 1) (s : State) : StepResult :=
  runInflater
    ((takeHeader btype f s.inflater).bind fun _ d => (Res.raise .badBlockType d : Res Inflater Unit)) s
    fun _ t => .next t

/-- A stored block body (R237, R238, R98): align, LEN, NLEN, the complement check, then the data. -/
def storedItem (len nlen : BitVec 16) (s : State) : StepResult :=
  let d := s.inflater
  runInflater
    ((takeBits 16 { d with br := d.br.align }).bind fun _ d =>
      (takeBits 16 d).bind fun _ d =>
        if lenNlenOk len nlen then storedCopy d len.toNat else .raise .lenNlen d)
    s fun _ t => .next (endBlock t)

end Sys2Proof.Machine
end

