-- ==== Sys2Proof/Machine/Blocks.lean ====
section
/-! DEFINITION. The meanings of the block headers and of the stored body (spec/45_deflate_fixed_decoder.md R231, R236, R237,
R239). -/

namespace Sys2Proof.Machine

/-- `BLK_STORED` (R231, R237): a stored body follows. -/
def execBlkStored (f : BitVec 1) (s : State) : StepResult := blockItem 0 f .stored s

/-- `BLK_FIXED` (R231, R239): a fixed-Huffman body follows. -/
def execBlkFixed (f : BitVec 1) (s : State) : StepResult := blockItem 1 f .litlen s

/-- `BLK_DYNAMIC` (R236). -/
def execBlkDynamic (f : BitVec 1) (s : State) : StepResult := badBlockItem 2 f s

/-- `BLK_RESERVED` (R236). -/
def execBlkReserved (f : BitVec 1) (s : State) : StepResult := badBlockItem 3 f s

/-- `STORED_BODY` (R237, R238). -/
def execStoredBody (len nlen : BitVec 16) (s : State) : StepResult := storedItem len nlen s

end Sys2Proof.Machine
end

