-- ==== Sys2Proof/Machine/Commands.lean ====
section
/-! DEFINITION. The host commands (spec/30_encoding.md R130, R131; spec/46_gzip_framer.md R260, R261, R267). A command that
starts leaves the core busy with what its rule lists still to run; the steps that follow run it (log entry 2). -/

namespace Sys2Proof.Machine

/-- The unit operations of `COMPRESS`, in R261's order: `GZ.WRITEHDR`, `TK.TOKENIZE`, `ENC.BLOCK`, `GZ.WRITEFTR`. -/
def compressUops : List Nat := [0x90, 0x62, 0x70, 0x91]

/-- A command write while `BUSY = 1` is refused (R131). -/
def whenIdle (s : State) (t : StepResult) : StepResult := if s.busy then .refused .cmdWhileBusy else t

/-- `CMD_NONE` (R130): "no command; writing it has no effect". -/
def execCmdNone (s : State) : StepResult := whenIdle s (.next s)

/-- `COMPRESS` (R260, R261): the command starts. -/
def execCompress (s : State) : StepResult :=
  whenIdle s (.next { startCommand s with phase := .cTokenize, uops := compressUops })

/-- `DECOMPRESS` (R260, R267): the command starts, and the gzip header is expected. -/
def execDecompress (s : State) : StepResult :=
  whenIdle s (.next { startCommand s with phase := .dHeader, expect := .gzhdr })

/-- `CMD_RESERVED` (R131, U3): refused. -/
def execCmdReserved (_s : State) : StepResult := .refused .cmdReserved

end Sys2Proof.Machine
end

