-- ==== Sys2Proof/Machine/Crc.lean ====
section
/-! DEFINITION. `crc32_checksum` (spec/41_crc32.md): the unit's functions and the meanings of its operations. -/

namespace Sys2Proof.Machine

/-- `CRC.UPDATE` (R162): `CRC_TAB[(crc ^ b) & 0xFF] ^ (crc >> 8)`. -/
def crcStep (c : Word32) (b : Byte) : Word32 := crcTab ((c ^^^ b.setWidth 32).setWidth 8) ^^^ (c >>> 8)

/-- The running CRC after `CRC.INIT` and an update per byte (R164). -/
def crcRun (bs : List Byte) : Word32 := bs.foldl crcStep Config.crcInit

/-- `CRC.FINAL` (R163). -/
def crcFinish (c : Word32) : Word32 := c ^^^ Config.crcXorOut

/-- `crc32(bytes)` (R164). -/
def crc32 (bs : List Byte) : Word32 := crcFinish (crcRun bs)

/-- `CRC.INIT` (R161). -/
def execCrcInit (s : State) : StepResult := .next { s with crc := Config.crcInit }

/-- `CRC.UPDATE(b)` (R162). -/
def execCrcUpdate (b : Byte) (s : State) : StepResult := .next { s with crc := crcStep s.crc b }

/-- `CRC.FINAL` (R163): returns the complement; `CRC.crc` itself is not changed. -/
def execCrcFinal (s : State) : StepResult := .next { s with result := .value (crcFinish s.crc).toNat }

end Sys2Proof.Machine
end

