-- ==== Sys2Proof/Machine/Distances.lean ====
section
/-! DEFINITION. The meanings of the distance elements (spec/45_deflate_fixed_decoder.md R242 to R245; spec/30_encoding.md
R114, R115). -/

namespace Sys2Proof.Machine

/-- `DIST 0` (R242). -/
def execDist0 (s : State) : StepResult := distanceItem 0 0 s
/-- `DIST 1` (R242). -/
def execDist1 (s : State) : StepResult := distanceItem 1 0 s
/-- `DIST 2` (R242). -/
def execDist2 (s : State) : StepResult := distanceItem 2 0 s
/-- `DIST 3` (R242). -/
def execDist3 (s : State) : StepResult := distanceItem 3 0 s
/-- `DIST 4` (R242). -/
def execDist4 (x : BitVec 1) (s : State) : StepResult := distanceItem 4 x.toNat s
/-- `DIST 5` (R242). -/
def execDist5 (x : BitVec 1) (s : State) : StepResult := distanceItem 5 x.toNat s
/-- `DIST 6` (R242). -/
def execDist6 (x : BitVec 2) (s : State) : StepResult := distanceItem 6 x.toNat s
/-- `DIST 7` (R242). -/
def execDist7 (x : BitVec 2) (s : State) : StepResult := distanceItem 7 x.toNat s
/-- `DIST 8` (R242). -/
def execDist8 (x : BitVec 3) (s : State) : StepResult := distanceItem 8 x.toNat s
/-- `DIST 9` (R242). -/
def execDist9 (x : BitVec 3) (s : State) : StepResult := distanceItem 9 x.toNat s
/-- `DIST 10` (R242). -/
def execDist10 (x : BitVec 4) (s : State) : StepResult := distanceItem 10 x.toNat s
/-- `DIST 11` (R242). -/
def execDist11 (x : BitVec 4) (s : State) : StepResult := distanceItem 11 x.toNat s
/-- `DIST 12` (R242). -/
def execDist12 (x : BitVec 5) (s : State) : StepResult := distanceItem 12 x.toNat s
/-- `DIST 13` (R242). -/
def execDist13 (x : BitVec 5) (s : State) : StepResult := distanceItem 13 x.toNat s
/-- `DIST 14` (R242). -/
def execDist14 (x : BitVec 6) (s : State) : StepResult := distanceItem 14 x.toNat s
/-- `DIST 15` (R242). -/
def execDist15 (x : BitVec 6) (s : State) : StepResult := distanceItem 15 x.toNat s
/-- `DIST 16` (R242). -/
def execDist16 (x : BitVec 7) (s : State) : StepResult := distanceItem 16 x.toNat s
/-- `DIST 17` (R242). -/
def execDist17 (x : BitVec 7) (s : State) : StepResult := distanceItem 17 x.toNat s
/-- `DIST 18` (R242). -/
def execDist18 (x : BitVec 8) (s : State) : StepResult := distanceItem 18 x.toNat s
/-- `DIST 19` (R242). -/
def execDist19 (x : BitVec 8) (s : State) : StepResult := distanceItem 19 x.toNat s
/-- `DIST 20` (R242). -/
def execDist20 (x : BitVec 9) (s : State) : StepResult := distanceItem 20 x.toNat s
/-- `DIST 21` (R242). -/
def execDist21 (x : BitVec 9) (s : State) : StepResult := distanceItem 21 x.toNat s
/-- `DIST 22` (R242). -/
def execDist22 (x : BitVec 10) (s : State) : StepResult := distanceItem 22 x.toNat s
/-- `DIST 23` (R242). -/
def execDist23 (x : BitVec 10) (s : State) : StepResult := distanceItem 23 x.toNat s
/-- `DIST 24` (R242). -/
def execDist24 (x : BitVec 11) (s : State) : StepResult := distanceItem 24 x.toNat s
/-- `DIST 25` (R242). -/
def execDist25 (x : BitVec 11) (s : State) : StepResult := distanceItem 25 x.toNat s
/-- `DIST 26` (R242). -/
def execDist26 (x : BitVec 12) (s : State) : StepResult := distanceItem 26 x.toNat s
/-- `DIST 27` (R242). -/
def execDist27 (x : BitVec 12) (s : State) : StepResult := distanceItem 27 x.toNat s
/-- `DIST 28` (R242). -/
def execDist28 (x : BitVec 13) (s : State) : StepResult := distanceItem 28 x.toNat s
/-- `DIST 29` (R242). -/
def execDist29 (x : BitVec 13) (s : State) : StepResult := distanceItem 29 x.toNat s

/-- Distance symbol 30 (R243). -/
def execReservedDist30 (s : State) : StepResult := reservedDistItem s

/-- Distance symbol 31 (R243). -/
def execReservedDist31 (s : State) : StepResult := reservedDistItem s

end Sys2Proof.Machine
end

