-- ==== Sys2Proof/Machine/Encoder.lean ====
section
/-! DEFINITION. `deflate_fixed_encoder` (spec/44_deflate_fixed_encoder.md): the unit's functions over the bit writer, and
the meanings of its operations. -/

namespace Sys2Proof.Machine

/-- `ENC.LITERAL(b)` (R211). -/
def encodeLiteral (b : Byte) (bw : BW) : BW := heLitlen b.toNat bw

/-- `ENC.MATCH(len, dist)` (R213). -/
def encodeMatch (len dist : Nat) (bw : BW) : BW :=
  let i := lenIndex len
  let j := distIndex dist
  let bw := heLitlen (257 + i) bw
  let bw := bw.writeBits (len - lenBase i) (lenExtra i)
  let bw := heDist j bw
  bw.writeBits (dist - distBase j) (distExtra j)

/-- `ENC.EOB` (R214). -/
def encodeEob (bw : BW) : BW := (heLitlen 256 bw).align

/-- One token (the loop body of R210). -/
def encodeToken (bw : BW) (t : Token) : BW :=
  match t with
  | .lit b => encodeLiteral b bw
  | .mtch len dist => encodeMatch len dist bw

/-- `ENC.BLOCK(tokens)` (R210): BFINAL = 1, BTYPE = 1, the tokens, EOB. -/
def encodeBlockBits (tokens : List Token) (bw : BW) : BW :=
  encodeEob (tokens.foldl encodeToken ((bw.writeBits 1 1).writeBits 1 2))

/-- `ENC.BLOCK` on the token queue (R210, R37), whose precondition is that `BW` is on a byte boundary. -/
def execEncBlock (s : State) : StepResult :=
  if s.bw.cnt ≠ 0 then .refused .unaligned
  else if s.tk.queue.all Token.ok then
    .next { s with bw := encodeBlockBits s.tk.queue s.bw, tk := { s.tk with queue := [] } }
  else .refused .matchRange

/-- `ENC.LITERAL(b)` (R211). -/
def execEncLiteral (b : Byte) (s : State) : StepResult := .next { s with bw := encodeLiteral b s.bw }

/-- `ENC.MATCH(len, dist)` (R213). -/
def execEncMatch (len dist : Nat) (s : State) : StepResult :=
  if matchOk len dist then .next { s with bw := encodeMatch len dist s.bw } else .refused .matchRange

/-- `ENC.EOB` (R214). -/
def execEncEob (s : State) : StepResult := .next { s with bw := encodeEob s.bw }

end Sys2Proof.Machine
end

