-- ==== Sys2Proof/Machine/Gzip.lean ====
section
/-! DEFINITION. `gzip_framer` (spec/46_gzip_framer.md R262 to R272): the unit's functions, and the meanings of its
operations and of the container elements. -/

namespace Sys2Proof.Machine

/-- The header `COMPRESS` writes (R95, R262). -/
def gzHeader : List Byte := [0x1F, 0x8B, 0x08, 0x00, 0x00, 0x00, 0x00, 0x00, 0x00, 0xFF]

/-- The footer of an input (R94, R264): CRC32, then the length modulo 2^32, both little-endian. -/
def gzFooter (d : List Byte) : List Byte := leBytes 4 (crc32 d).toNat ++ leBytes 4 (d.length % 2 ^ 32)

/-- The `u32` at an offset (R65). -/
def word32At (d : List Byte) (a : Nat) : Word32 := BitVec.ofNat 32 (leNat ((d.drop a).take 4))

/-- Step 1 of `GZ.PARSEHDR` (R268). -/
def parseLength (n : Nat) (gz : GZ) : Res GZ Unit :=
  if n < Config.minContainer then .raise .tooShort gz else .ok () { gz with endPos := n - Config.footerLen }

/-- What a valid magic and method leave (R269): the flags are latched and the cursor is after the fixed header. -/
def acceptHeader (flg : Byte) (gz : GZ) : GZ := { gz with flg := flg, pos := Config.headerLen, opt := flg }

/-- Step 2 of `GZ.PARSEHDR` (R269). -/
def parseMagic (d : List Byte) (gz : GZ) : Res GZ Unit :=
  if leNat (d.take 3) = gzMagic then .ok () (acceptHeader (d.getD 3 0) gz) else .raise .badHeader gz

/-- Skip FEXTRA (R270): a little-endian 16-bit length and that many bytes; `none` if it does not end before the footer.
Where `GZ.end` is beyond `n`, bytes beyond the input read as 0 (DESIGN CHOICE, log entry 30). -/
def skipFextra (d : List Byte) (pos endPos : Nat) : Option Nat :=
  if endPos < pos + 2 then none
  else
    let past := pos + 2 + leNat ((d.drop pos).take 2)
    if endPos < past then none else some past

/-- Skip a NUL-terminated field (R270); `none` if there is no NUL before the footer. `fuel` is the number of bytes left.
Where `GZ.end` is beyond `n`, bytes beyond the input read as 0 and so end the field (DESIGN CHOICE, log entry 30). -/
def skipTextLoop (d : List Byte) (pos : Nat) : Nat → Option Nat
  | 0 => none
  | fuel + 1 => if d.getD pos 0 = 0 then some (pos + 1) else skipTextLoop d (pos + 1) fuel

/-- Skip FNAME or FCOMMENT (R270). -/
def skipText (d : List Byte) (pos endPos : Nat) : Option Nat := skipTextLoop d pos (endPos - pos)

/-- Skip FHCRC (R270): two bytes, not verified. -/
def skipFhcrc (pos endPos : Nat) : Option Nat := if endPos < pos + 2 then none else some (pos + 2)

/-- Skip a field if its `FLG` bit is set (R270). -/
def skipIf (flag : Bool) (pos : Nat) (skip : Nat → Option Nat) : Option Nat := if flag then skip pos else some pos

/-- Step 3 of `GZ.PARSEHDR` (R270): FEXTRA, FNAME, FCOMMENT, FHCRC in that order, from offset 10. -/
def skipFields (d : List Byte) (flg : Byte) (endPos : Nat) : Option Nat :=
  (skipIf (flg.getLsbD 2) Config.headerLen (skipFextra d · endPos)).bind fun pos =>
    (skipIf (flg.getLsbD 3) pos (skipText d · endPos)).bind fun pos =>
      (skipIf (flg.getLsbD 4) pos (skipText d · endPos)).bind fun pos =>
        skipIf (flg.getLsbD 1) pos (skipFhcrc · endPos)

/-- `GZ.PARSEHDR` on an input (R268 to R270). -/
def parseHeader (d : List Byte) (gz : GZ) : Res GZ Unit :=
  (parseLength d.length gz).bind fun _ gz =>
    (parseMagic d gz).bind fun _ gz =>
      match skipFields d gz.flg gz.endPos with
      | some pos => .ok () { gz with pos := pos, opt := 0 }
      | none => .raise .badFieldLen gz

/-- `PAY = IN[GZ.pos .. GZ.end)` (R25, R271). -/
def payload (d : List Byte) (gz : GZ) : List Byte := (d.take gz.endPos).drop gz.pos

/-- Which error the footer checks report (R272): when both fields are wrong it is `FOOTER_ORDER`'s choice (R312). -/
def footerError (crcBad sizeBad : Bool) : Option ErrKind :=
  match crcBad, sizeBad with
  | false, false => none
  | true, false => some .crcMismatch
  | false, true => some .sizeMismatch
  | true, true =>
    match Config.footerOrder with
    | .crcFirst => some .crcMismatch
    | .sizeFirst => some .sizeMismatch

/-- The footer checks against an output (R272). -/
def checkFooter (out : List Byte) (crc size : Word32) : Option ErrKind :=
  footerError (crc32 out != crc) (BitVec.ofNat 32 out.length != size)

/-- What a framer operation returned, as a step. -/
def runFramer {α : Type} (r : Res GZ α) (s : State) (k : α → State → StepResult) : StepResult :=
  match r with
  | .ok a gz => k a { s with gz := gz }
  | .raise e gz => .next (raiseError e { s with gz := gz })

/-- The footer checks on the state (R272): the expected values are latched and the CRC unit has run over `OUT`. -/
def footerItem (crc size : Word32) (next : Expect) (s : State) : StepResult :=
  let t := { s with crc := crcRun s.out, gz := { s.gz with crcExpect := crc, sizeExpect := size } }
  match checkFooter s.out crc size with
  | some e => .next (raiseError e t)
  | none => .next { t with expect := next }

/-- An optional field skipped, or not ending before the footer (R270); `mask` is its `FLG` bit. -/
def fieldItem (mask : Byte) (past : Option Nat) (s : State) : StepResult :=
  match past with
  | some pos => .next { s with gz := { s.gz with pos := pos, opt := s.gz.opt &&& ~~~mask } }
  | none => .next (raiseError .badFieldLen s)

/-! ### Container elements -/

/-- `GZHDR` (R268, R269): `MTIME`, `XFL` and `OS` are not examined (R91). -/
def execGzhdr (flg : Byte) (_mtime : BitVec 32) (_xfl _os : Byte) (s : State) : StepResult :=
  runFramer ((parseLength s.n s.gz).bind fun _ gz => .ok () (acceptHeader flg gz)) s fun _ t =>
    .next { t with expect := .gzopt }

/-- `GZOPT_FEXTRA` (R270, R93). -/
def execGzoptFextra (s : State) : StepResult :=
  withInput s fun d => fieldItem 0x04 (skipFextra d s.gz.pos s.gz.endPos) s

/-- `GZOPT_FNAME` (R270, R93). -/
def execGzoptFname (s : State) : StepResult :=
  withInput s fun d => fieldItem 0x08 (skipText d s.gz.pos s.gz.endPos) s

/-- `GZOPT_FCOMMENT` (R270, R93). -/
def execGzoptFcomment (s : State) : StepResult :=
  withInput s fun d => fieldItem 0x10 (skipText d s.gz.pos s.gz.endPos) s

/-- `GZOPT_FHCRC` (R270, R93). -/
def execGzoptFhcrc (s : State) : StepResult := fieldItem 0x02 (skipFhcrc s.gz.pos s.gz.endPos) s

/-- `GZFTR` (R272, R94). -/
def execGzftr (crc size : Word32) (s : State) : StepResult := footerItem crc size .nothing s

/-! ### Unit operations -/

/-- `GZ.WRITEHDR` (R262): the header goes into `BW.buf`, as R262's pseudocode has it, and so into `OUT` (`State.outBytes`); what
R60 and R68 call `BW.buf` is the part after it (`State.deflateBytes`; DESIGN CHOICE, log entry 27). R262 states it for a freshly initialised `BW`; where
something stands in `BW.buf` already, the header goes after it (DESIGN CHOICE, log entry 32). -/
def execGzWritehdr (s : State) : StepResult :=
  if s.bw.cnt = 0 then .next { s with bw := s.bw.appendBytes gzHeader } else .refused .unaligned

/-- `GZ.WRITEFTR` (R264). -/
def execGzWriteftr (s : State) : StepResult :=
  if s.bw.cnt = 0 then
    withInput s fun d => .next { s with bw := s.bw.appendBytes (gzFooter d), crc := crcRun d }
  else .refused .unaligned

/-- `GZ.PARSEHDR` (R268 to R270). Nothing of `IN` is read before the length check. -/
def execGzParsehdr (s : State) : StepResult :=
  if s.n < Config.minContainer then .next (raiseError .tooShort s)
  else withInput s fun d => runFramer (parseHeader d s.gz) s fun _ t => .next t

/-- `GZ.CHECKFTR` (R272). -/
def execGzCheckftr (s : State) : StepResult :=
  if s.n < Config.footerLen then .refused .footerRange
  else withInput s fun d => footerItem (word32At d (s.n - 8)) (word32At d (s.n - 4)) s.expect s

end Sys2Proof.Machine
end

