-- ==== Sys2Proof/Machine/Lengths.lean ====
section
/-! DEFINITION. The meanings of the length elements (spec/45_deflate_fixed_decoder.md R242; spec/30_encoding.md R112, R113). -/

namespace Sys2Proof.Machine

/-- `LEN 257` (R242). -/
def execLen257 (s : State) : StepResult := lengthItem 0 0 s
/-- `LEN 258` (R242). -/
def execLen258 (s : State) : StepResult := lengthItem 1 0 s
/-- `LEN 259` (R242). -/
def execLen259 (s : State) : StepResult := lengthItem 2 0 s
/-- `LEN 260` (R242). -/
def execLen260 (s : State) : StepResult := lengthItem 3 0 s
/-- `LEN 261` (R242). -/
def execLen261 (s : State) : StepResult := lengthItem 4 0 s
/-- `LEN 262` (R242). -/
def execLen262 (s : State) : StepResult := lengthItem 5 0 s
/-- `LEN 263` (R242). -/
def execLen263 (s : State) : StepResult := lengthItem 6 0 s
/-- `LEN 264` (R242). -/
def execLen264 (s : State) : StepResult := lengthItem 7 0 s
/-- `LEN 265` (R242). -/
def execLen265 (e : BitVec 1) (s : State) : StepResult := lengthItem 8 e.toNat s
/-- `LEN 266` (R242). -/
def execLen266 (e : BitVec 1) (s : State) : StepResult := lengthItem 9 e.toNat s
/-- `LEN 267` (R242). -/
def execLen267 (e : BitVec 1) (s : State) : StepResult := lengthItem 10 e.toNat s
/-- `LEN 268` (R242). -/
def execLen268 (e : BitVec 1) (s : State) : StepResult := lengthItem 11 e.toNat s
/-- `LEN 269` (R242). -/
def execLen269 (e : BitVec 2) (s : State) : StepResult := lengthItem 12 e.toNat s
/-- `LEN 270` (R242). -/
def execLen270 (e : BitVec 2) (s : State) : StepResult := lengthItem 13 e.toNat s
/-- `LEN 271` (R242). -/
def execLen271 (e : BitVec 2) (s : State) : StepResult := lengthItem 14 e.toNat s
/-- `LEN 272` (R242). -/
def execLen272 (e : BitVec 2) (s : State) : StepResult := lengthItem 15 e.toNat s
/-- `LEN 273` (R242). -/
def execLen273 (e : BitVec 3) (s : State) : StepResult := lengthItem 16 e.toNat s
/-- `LEN 274` (R242). -/
def execLen274 (e : BitVec 3) (s : State) : StepResult := lengthItem 17 e.toNat s
/-- `LEN 275` (R242). -/
def execLen275 (e : BitVec 3) (s : State) : StepResult := lengthItem 18 e.toNat s
/-- `LEN 276` (R242). -/
def execLen276 (e : BitVec 3) (s : State) : StepResult := lengthItem 19 e.toNat s
/-- `LEN 277` (R242). -/
def execLen277 (e : BitVec 4) (s : State) : StepResult := lengthItem 20 e.toNat s
/-- `LEN 278` (R242). -/
def execLen278 (e : BitVec 4) (s : State) : StepResult := lengthItem 21 e.toNat s
/-- `LEN 279` (R242). -/
def execLen279 (e : BitVec 4) (s : State) : StepResult := lengthItem 22 e.toNat s
/-- `LEN 280` (R242). -/
def execLen280 (e : BitVec 4) (s : State) : StepResult := lengthItem 23 e.toNat s
/-- `LEN 281` (R242). -/
def execLen281 (e : BitVec 5) (s : State) : StepResult := lengthItem 24 e.toNat s
/-- `LEN 282` (R242). -/
def execLen282 (e : BitVec 5) (s : State) : StepResult := lengthItem 25 e.toNat s
/-- `LEN 283` (R242). -/
def execLen283 (e : BitVec 5) (s : State) : StepResult := lengthItem 26 e.toNat s
/-- `LEN 284` (R242). -/
def execLen284 (e : BitVec 5) (s : State) : StepResult := lengthItem 27 e.toNat s
/-- `LEN 285` (R242). -/
def execLen285 (s : State) : StepResult := lengthItem 28 0 s

end Sys2Proof.Machine
end

