-- ==== Sys2Proof/Machine/Literals.lean ====
section
/-! DEFINITION. The meanings of the literal/length elements that carry no length (spec/45_deflate_fixed_decoder.md R240,
R241, R243): the 256 literals, end of block, and the two reserved symbols. -/

namespace Sys2Proof.Machine

/-- `LIT 0x00` (R240). -/
def execLit00 (s : State) : StepResult := literalItem 0x00 s
/-- `LIT 0x01` (R240). -/
def execLit01 (s : State) : StepResult := literalItem 0x01 s
/-- `LIT 0x02` (R240). -/
def execLit02 (s : State) : StepResult := literalItem 0x02 s
/-- `LIT 0x03` (R240). -/
def execLit03 (s : State) : StepResult := literalItem 0x03 s
/-- `LIT 0x04` (R240). -/
def execLit04 (s : State) : StepResult := literalItem 0x04 s
/-- `LIT 0x05` (R240). -/
def execLit05 (s : State) : StepResult := literalItem 0x05 s
/-- `LIT 0x06` (R240). -/
def execLit06 (s : State) : StepResult := literalItem 0x06 s
/-- `LIT 0x07` (R240). -/
def execLit07 (s : State) : StepResult := literalItem 0x07 s
/-- `LIT 0x08` (R240). -/
def execLit08 (s : State) : StepResult := literalItem 0x08 s
/-- `LIT 0x09` (R240). -/
def execLit09 (s : State) : StepResult := literalItem 0x09 s
/-- `LIT 0x0A` (R240). -/
def execLit0A (s : State) : StepResult := literalItem 0x0A s
/-- `LIT 0x0B` (R240). -/
def execLit0B (s : State) : StepResult := literalItem 0x0B s
/-- `LIT 0x0C` (R240). -/
def execLit0C (s : State) : StepResult := literalItem 0x0C s
/-- `LIT 0x0D` (R240). -/
def execLit0D (s : State) : StepResult := literalItem 0x0D s
/-- `LIT 0x0E` (R240). -/
def execLit0E (s : State) : StepResult := literalItem 0x0E s
/-- `LIT 0x0F` (R240). -/
def execLit0F (s : State) : StepResult := literalItem 0x0F s
/-- `LIT 0x10` (R240). -/
def execLit10 (s : State) : StepResult := literalItem 0x10 s
/-- `LIT 0x11` (R240). -/
def execLit11 (s : State) : StepResult := literalItem 0x11 s
/-- `LIT 0x12` (R240). -/
def execLit12 (s : State) : StepResult := literalItem 0x12 s
/-- `LIT 0x13` (R240). -/
def execLit13 (s : State) : StepResult := literalItem 0x13 s
/-- `LIT 0x14` (R240). -/
def execLit14 (s : State) : StepResult := literalItem 0x14 s
/-- `LIT 0x15` (R240). -/
def execLit15 (s : State) : StepResult := literalItem 0x15 s
/-- `LIT 0x16` (R240). -/
def execLit16 (s : State) : StepResult := literalItem 0x16 s
/-- `LIT 0x17` (R240). -/
def execLit17 (s : State) : StepResult := literalItem 0x17 s
/-- `LIT 0x18` (R240). -/
def execLit18 (s : State) : StepResult := literalItem 0x18 s
/-- `LIT 0x19` (R240). -/
def execLit19 (s : State) : StepResult := literalItem 0x19 s
/-- `LIT 0x1A` (R240). -/
def execLit1A (s : State) : StepResult := literalItem 0x1A s
/-- `LIT 0x1B` (R240). -/
def execLit1B (s : State) : StepResult := literalItem 0x1B s
/-- `LIT 0x1C` (R240). -/
def execLit1C (s : State) : StepResult := literalItem 0x1C s
/-- `LIT 0x1D` (R240). -/
def execLit1D (s : State) : StepResult := literalItem 0x1D s
/-- `LIT 0x1E` (R240). -/
def execLit1E (s : State) : StepResult := literalItem 0x1E s
/-- `LIT 0x1F` (R240). -/
def execLit1F (s : State) : StepResult := literalItem 0x1F s
/-- `LIT 0x20` (R240). -/
def execLit20 (s : State) : StepResult := literalItem 0x20 s
/-- `LIT 0x21` (R240). -/
def execLit21 (s : State) : StepResult := literalItem 0x21 s
/-- `LIT 0x22` (R240). -/
def execLit22 (s : State) : StepResult := literalItem 0x22 s
/-- `LIT 0x23` (R240). -/
def execLit23 (s : State) : StepResult := literalItem 0x23 s
/-- `LIT 0x24` (R240). -/
def execLit24 (s : State) : StepResult := literalItem 0x24 s
/-- `LIT 0x25` (R240). -/
def execLit25 (s : State) : StepResult := literalItem 0x25 s
/-- `LIT 0x26` (R240). -/
def execLit26 (s : State) : StepResult := literalItem 0x26 s
/-- `LIT 0x27` (R240). -/
def execLit27 (s : State) : StepResult := literalItem 0x27 s
/-- `LIT 0x28` (R240). -/
def execLit28 (s : State) : StepResult := literalItem 0x28 s
/-- `LIT 0x29` (R240). -/
def execLit29 (s : State) : StepResult := literalItem 0x29 s
/-- `LIT 0x2A` (R240). -/
def execLit2A (s : State) : StepResult := literalItem 0x2A s
/-- `LIT 0x2B` (R240). -/
def execLit2B (s : State) : StepResult := literalItem 0x2B s
/-- `LIT 0x2C` (R240). -/
def execLit2C (s : State) : StepResult := literalItem 0x2C s
/-- `LIT 0x2D` (R240). -/
def execLit2D (s : State) : StepResult := literalItem 0x2D s
/-- `LIT 0x2E` (R240). -/
def execLit2E (s : State) : StepResult := literalItem 0x2E s
/-- `LIT 0x2F` (R240). -/
def execLit2F (s : State) : StepResult := literalItem 0x2F s
/-- `LIT 0x30` (R240). -/
def execLit30 (s : State) : StepResult := literalItem 0x30 s
/-- `LIT 0x31` (R240). -/
def execLit31 (s : State) : StepResult := literalItem 0x31 s
/-- `LIT 0x32` (R240). -/
def execLit32 (s : State) : StepResult := literalItem 0x32 s
/-- `LIT 0x33` (R240). -/
def execLit33 (s : State) : StepResult := literalItem 0x33 s
/-- `LIT 0x34` (R240). -/
def execLit34 (s : State) : StepResult := literalItem 0x34 s
/-- `LIT 0x35` (R240). -/
def execLit35 (s : State) : StepResult := literalItem 0x35 s
/-- `LIT 0x36` (R240). -/
def execLit36 (s : State) : StepResult := literalItem 0x36 s
/-- `LIT 0x37` (R240). -/
def execLit37 (s : State) : StepResult := literalItem 0x37 s
/-- `LIT 0x38` (R240). -/
def execLit38 (s : State) : StepResult := literalItem 0x38 s
/-- `LIT 0x39` (R240). -/
def execLit39 (s : State) : StepResult := literalItem 0x39 s
/-- `LIT 0x3A` (R240). -/
def execLit3A (s : State) : StepResult := literalItem 0x3A s
/-- `LIT 0x3B` (R240). -/
def execLit3B (s : State) : StepResult := literalItem 0x3B s
/-- `LIT 0x3C` (R240). -/
def execLit3C (s : State) : StepResult := literalItem 0x3C s
/-- `LIT 0x3D` (R240). -/
def execLit3D (s : State) : StepResult := literalItem 0x3D s
/-- `LIT 0x3E` (R240). -/
def execLit3E (s : State) : StepResult := literalItem 0x3E s
/-- `LIT 0x3F` (R240). -/
def execLit3F (s : State) : StepResult := literalItem 0x3F s
/-- `LIT 0x40` (R240). -/
def execLit40 (s : State) : StepResult := literalItem 0x40 s
/-- `LIT 0x41` (R240). -/
def execLit41 (s : State) : StepResult := literalItem 0x41 s
/-- `LIT 0x42` (R240). -/
def execLit42 (s : State) : StepResult := literalItem 0x42 s
/-- `LIT 0x43` (R240). -/
def execLit43 (s : State) : StepResult := literalItem 0x43 s
/-- `LIT 0x44` (R240). -/
def execLit44 (s : State) : StepResult := literalItem 0x44 s
/-- `LIT 0x45` (R240). -/
def execLit45 (s : State) : StepResult := literalItem 0x45 s
/-- `LIT 0x46` (R240). -/
def execLit46 (s : State) : StepResult := literalItem 0x46 s
/-- `LIT 0x47` (R240). -/
def execLit47 (s : State) : StepResult := literalItem 0x47 s
/-- `LIT 0x48` (R240). -/
def execLit48 (s : State) : StepResult := literalItem 0x48 s
/-- `LIT 0x49` (R240). -/
def execLit49 (s : State) : StepResult := literalItem 0x49 s
/-- `LIT 0x4A` (R240). -/
def execLit4A (s : State) : StepResult := literalItem 0x4A s
/-- `LIT 0x4B` (R240). -/
def execLit4B (s : State) : StepResult := literalItem 0x4B s
/-- `LIT 0x4C` (R240). -/
def execLit4C (s : State) : StepResult := literalItem 0x4C s
/-- `LIT 0x4D` (R240). -/
def execLit4D (s : State) : StepResult := literalItem 0x4D s
/-- `LIT 0x4E` (R240). -/
def execLit4E (s : State) : StepResult := literalItem 0x4E s
/-- `LIT 0x4F` (R240). -/
def execLit4F (s : State) : StepResult := literalItem 0x4F s
/-- `LIT 0x50` (R240). -/
def execLit50 (s : State) : StepResult := literalItem 0x50 s
/-- `LIT 0x51` (R240). -/
def execLit51 (s : State) : StepResult := literalItem 0x51 s
/-- `LIT 0x52` (R240). -/
def execLit52 (s : State) : StepResult := literalItem 0x52 s
/-- `LIT 0x53` (R240). -/
def execLit53 (s : State) : StepResult := literalItem 0x53 s
/-- `LIT 0x54` (R240). -/
def execLit54 (s : State) : StepResult := literalItem 0x54 s
/-- `LIT 0x55` (R240). -/
def execLit55 (s : State) : StepResult := literalItem 0x55 s
/-- `LIT 0x56` (R240). -/
def execLit56 (s : State) : StepResult := literalItem 0x56 s
/-- `LIT 0x57` (R240). -/
def execLit57 (s : State) : StepResult := literalItem 0x57 s
/-- `LIT 0x58` (R240). -/
def execLit58 (s : State) : StepResult := literalItem 0x58 s
/-- `LIT 0x59` (R240). -/
def execLit59 (s : State) : StepResult := literalItem 0x59 s
/-- `LIT 0x5A` (R240). -/
def execLit5A (s : State) : StepResult := literalItem 0x5A s
/-- `LIT 0x5B` (R240). -/
def execLit5B (s : State) : StepResult := literalItem 0x5B s
/-- `LIT 0x5C` (R240). -/
def execLit5C (s : State) : StepResult := literalItem 0x5C s
/-- `LIT 0x5D` (R240). -/
def execLit5D (s : State) : StepResult := literalItem 0x5D s
/-- `LIT 0x5E` (R240). -/
def execLit5E (s : State) : StepResult := literalItem 0x5E s
/-- `LIT 0x5F` (R240). -/
def execLit5F (s : State) : StepResult := literalItem 0x5F s
/-- `LIT 0x60` (R240). -/
def execLit60 (s : State) : StepResult := literalItem 0x60 s
/-- `LIT 0x61` (R240). -/
def execLit61 (s : State) : StepResult := literalItem 0x61 s
/-- `LIT 0x62` (R240). -/
def execLit62 (s : State) : StepResult := literalItem 0x62 s
/-- `LIT 0x63` (R240). -/
def execLit63 (s : State) : StepResult := literalItem 0x63 s
/-- `LIT 0x64` (R240). -/
def execLit64 (s : State) : StepResult := literalItem 0x64 s
/-- `LIT 0x65` (R240). -/
def execLit65 (s : State) : StepResult := literalItem 0x65 s
/-- `LIT 0x66` (R240). -/
def execLit66 (s : State) : StepResult := literalItem 0x66 s
/-- `LIT 0x67` (R240). -/
def execLit67 (s : State) : StepResult := literalItem 0x67 s
/-- `LIT 0x68` (R240). -/
def execLit68 (s : State) : StepResult := literalItem 0x68 s
/-- `LIT 0x69` (R240). -/
def execLit69 (s : State) : StepResult := literalItem 0x69 s
/-- `LIT 0x6A` (R240). -/
def execLit6A (s : State) : StepResult := literalItem 0x6A s
/-- `LIT 0x6B` (R240). -/
def execLit6B (s : State) : StepResult := literalItem 0x6B s
/-- `LIT 0x6C` (R240). -/
def execLit6C (s : State) : StepResult := literalItem 0x6C s
/-- `LIT 0x6D` (R240). -/
def execLit6D (s : State) : StepResult := literalItem 0x6D s
/-- `LIT 0x6E` (R240). -/
def execLit6E (s : State) : StepResult := literalItem 0x6E s
/-- `LIT 0x6F` (R240). -/
def execLit6F (s : State) : StepResult := literalItem 0x6F s
/-- `LIT 0x70` (R240). -/
def execLit70 (s : State) : StepResult := literalItem 0x70 s
/-- `LIT 0x71` (R240). -/
def execLit71 (s : State) : StepResult := literalItem 0x71 s
/-- `LIT 0x72` (R240). -/
def execLit72 (s : State) : StepResult := literalItem 0x72 s
/-- `LIT 0x73` (R240). -/
def execLit73 (s : State) : StepResult := literalItem 0x73 s
/-- `LIT 0x74` (R240). -/
def execLit74 (s : State) : StepResult := literalItem 0x74 s
/-- `LIT 0x75` (R240). -/
def execLit75 (s : State) : StepResult := literalItem 0x75 s
/-- `LIT 0x76` (R240). -/
def execLit76 (s : State) : StepResult := literalItem 0x76 s
/-- `LIT 0x77` (R240). -/
def execLit77 (s : State) : StepResult := literalItem 0x77 s
/-- `LIT 0x78` (R240). -/
def execLit78 (s : State) : StepResult := literalItem 0x78 s
/-- `LIT 0x79` (R240). -/
def execLit79 (s : State) : StepResult := literalItem 0x79 s
/-- `LIT 0x7A` (R240). -/
def execLit7A (s : State) : StepResult := literalItem 0x7A s
/-- `LIT 0x7B` (R240). -/
def execLit7B (s : State) : StepResult := literalItem 0x7B s
/-- `LIT 0x7C` (R240). -/
def execLit7C (s : State) : StepResult := literalItem 0x7C s
/-- `LIT 0x7D` (R240). -/
def execLit7D (s : State) : StepResult := literalItem 0x7D s
/-- `LIT 0x7E` (R240). -/
def execLit7E (s : State) : StepResult := literalItem 0x7E s
/-- `LIT 0x7F` (R240). -/
def execLit7F (s : State) : StepResult := literalItem 0x7F s
/-- `LIT 0x80` (R240). -/
def execLit80 (s : State) : StepResult := literalItem 0x80 s
/-- `LIT 0x81` (R240). -/
def execLit81 (s : State) : StepResult := literalItem 0x81 s
/-- `LIT 0x82` (R240). -/
def execLit82 (s : State) : StepResult := literalItem 0x82 s
/-- `LIT 0x83` (R240). -/
def execLit83 (s : State) : StepResult := literalItem 0x83 s
/-- `LIT 0x84` (R240). -/
def execLit84 (s : State) : StepResult := literalItem 0x84 s
/-- `LIT 0x85` (R240). -/
def execLit85 (s : State) : StepResult := literalItem 0x85 s
/-- `LIT 0x86` (R240). -/
def execLit86 (s : State) : StepResult := literalItem 0x86 s
/-- `LIT 0x87` (R240). -/
def execLit87 (s : State) : StepResult := literalItem 0x87 s
/-- `LIT 0x88` (R240). -/
def execLit88 (s : State) : StepResult := literalItem 0x88 s
/-- `LIT 0x89` (R240). -/
def execLit89 (s : State) : StepResult := literalItem 0x89 s
/-- `LIT 0x8A` (R240). -/
def execLit8A (s : State) : StepResult := literalItem 0x8A s
/-- `LIT 0x8B` (R240). -/
def execLit8B (s : State) : StepResult := literalItem 0x8B s
/-- `LIT 0x8C` (R240). -/
def execLit8C (s : State) : StepResult := literalItem 0x8C s
/-- `LIT 0x8D` (R240). -/
def execLit8D (s : State) : StepResult := literalItem 0x8D s
/-- `LIT 0x8E` (R240). -/
def execLit8E (s : State) : StepResult := literalItem 0x8E s
/-- `LIT 0x8F` (R240). -/
def execLit8F (s : State) : StepResult := literalItem 0x8F s
/-- `LIT 0x90` (R240). -/
def execLit90 (s : State) : StepResult := literalItem 0x90 s
/-- `LIT 0x91` (R240). -/
def execLit91 (s : State) : StepResult := literalItem 0x91 s
/-- `LIT 0x92` (R240). -/
def execLit92 (s : State) : StepResult := literalItem 0x92 s
/-- `LIT 0x93` (R240). -/
def execLit93 (s : State) : StepResult := literalItem 0x93 s
/-- `LIT 0x94` (R240). -/
def execLit94 (s : State) : StepResult := literalItem 0x94 s
/-- `LIT 0x95` (R240). -/
def execLit95 (s : State) : StepResult := literalItem 0x95 s
/-- `LIT 0x96` (R240). -/
def execLit96 (s : State) : StepResult := literalItem 0x96 s
/-- `LIT 0x97` (R240). -/
def execLit97 (s : State) : StepResult := literalItem 0x97 s
/-- `LIT 0x98` (R240). -/
def execLit98 (s : State) : StepResult := literalItem 0x98 s
/-- `LIT 0x99` (R240). -/
def execLit99 (s : State) : StepResult := literalItem 0x99 s
/-- `LIT 0x9A` (R240). -/
def execLit9A (s : State) : StepResult := literalItem 0x9A s
/-- `LIT 0x9B` (R240). -/
def execLit9B (s : State) : StepResult := literalItem 0x9B s
/-- `LIT 0x9C` (R240). -/
def execLit9C (s : State) : StepResult := literalItem 0x9C s
/-- `LIT 0x9D` (R240). -/
def execLit9D (s : State) : StepResult := literalItem 0x9D s
/-- `LIT 0x9E` (R240). -/
def execLit9E (s : State) : StepResult := literalItem 0x9E s
/-- `LIT 0x9F` (R240). -/
def execLit9F (s : State) : StepResult := literalItem 0x9F s
/-- `LIT 0xA0` (R240). -/
def execLitA0 (s : State) : StepResult := literalItem 0xA0 s
/-- `LIT 0xA1` (R240). -/
def execLitA1 (s : State) : StepResult := literalItem 0xA1 s
/-- `LIT 0xA2` (R240). -/
def execLitA2 (s : State) : StepResult := literalItem 0xA2 s
/-- `LIT 0xA3` (R240). -/
def execLitA3 (s : State) : StepResult := literalItem 0xA3 s
/-- `LIT 0xA4` (R240). -/
def execLitA4 (s : State) : StepResult := literalItem 0xA4 s
/-- `LIT 0xA5` (R240). -/
def execLitA5 (s : State) : StepResult := literalItem 0xA5 s
/-- `LIT 0xA6` (R240). -/
def execLitA6 (s : State) : StepResult := literalItem 0xA6 s
/-- `LIT 0xA7` (R240). -/
def execLitA7 (s : State) : StepResult := literalItem 0xA7 s
/-- `LIT 0xA8` (R240). -/
def execLitA8 (s : State) : StepResult := literalItem 0xA8 s
/-- `LIT 0xA9` (R240). -/
def execLitA9 (s : State) : StepResult := literalItem 0xA9 s
/-- `LIT 0xAA` (R240). -/
def execLitAA (s : State) : StepResult := literalItem 0xAA s
/-- `LIT 0xAB` (R240). -/
def execLitAB (s : State) : StepResult := literalItem 0xAB s
/-- `LIT 0xAC` (R240). -/
def execLitAC (s : State) : StepResult := literalItem 0xAC s
/-- `LIT 0xAD` (R240). -/
def execLitAD (s : State) : StepResult := literalItem 0xAD s
/-- `LIT 0xAE` (R240). -/
def execLitAE (s : State) : StepResult := literalItem 0xAE s
/-- `LIT 0xAF` (R240). -/
def execLitAF (s : State) : StepResult := literalItem 0xAF s
/-- `LIT 0xB0` (R240). -/
def execLitB0 (s : State) : StepResult := literalItem 0xB0 s
/-- `LIT 0xB1` (R240). -/
def execLitB1 (s : State) : StepResult := literalItem 0xB1 s
/-- `LIT 0xB2` (R240). -/
def execLitB2 (s : State) : StepResult := literalItem 0xB2 s
/-- `LIT 0xB3` (R240). -/
def execLitB3 (s : State) : StepResult := literalItem 0xB3 s
/-- `LIT 0xB4` (R240). -/
def execLitB4 (s : State) : StepResult := literalItem 0xB4 s
/-- `LIT 0xB5` (R240). -/
def execLitB5 (s : State) : StepResult := literalItem 0xB5 s
/-- `LIT 0xB6` (R240). -/
def execLitB6 (s : State) : StepResult := literalItem 0xB6 s
/-- `LIT 0xB7` (R240). -/
def execLitB7 (s : State) : StepResult := literalItem 0xB7 s
/-- `LIT 0xB8` (R240). -/
def execLitB8 (s : State) : StepResult := literalItem 0xB8 s
/-- `LIT 0xB9` (R240). -/
def execLitB9 (s : State) : StepResult := literalItem 0xB9 s
/-- `LIT 0xBA` (R240). -/
def execLitBA (s : State) : StepResult := literalItem 0xBA s
/-- `LIT 0xBB` (R240). -/
def execLitBB (s : State) : StepResult := literalItem 0xBB s
/-- `LIT 0xBC` (R240). -/
def execLitBC (s : State) : StepResult := literalItem 0xBC s
/-- `LIT 0xBD` (R240). -/
def execLitBD (s : State) : StepResult := literalItem 0xBD s
/-- `LIT 0xBE` (R240). -/
def execLitBE (s : State) : StepResult := literalItem 0xBE s
/-- `LIT 0xBF` (R240). -/
def execLitBF (s : State) : StepResult := literalItem 0xBF s
/-- `LIT 0xC0` (R240). -/
def execLitC0 (s : State) : StepResult := literalItem 0xC0 s
/-- `LIT 0xC1` (R240). -/
def execLitC1 (s : State) : StepResult := literalItem 0xC1 s
/-- `LIT 0xC2` (R240). -/
def execLitC2 (s : State) : StepResult := literalItem 0xC2 s
/-- `LIT 0xC3` (R240). -/
def execLitC3 (s : State) : StepResult := literalItem 0xC3 s
/-- `LIT 0xC4` (R240). -/
def execLitC4 (s : State) : StepResult := literalItem 0xC4 s
/-- `LIT 0xC5` (R240). -/
def execLitC5 (s : State) : StepResult := literalItem 0xC5 s
/-- `LIT 0xC6` (R240). -/
def execLitC6 (s : State) : StepResult := literalItem 0xC6 s
/-- `LIT 0xC7` (R240). -/
def execLitC7 (s : State) : StepResult := literalItem 0xC7 s
/-- `LIT 0xC8` (R240). -/
def execLitC8 (s : State) : StepResult := literalItem 0xC8 s
/-- `LIT 0xC9` (R240). -/
def execLitC9 (s : State) : StepResult := literalItem 0xC9 s
/-- `LIT 0xCA` (R240). -/
def execLitCA (s : State) : StepResult := literalItem 0xCA s
/-- `LIT 0xCB` (R240). -/
def execLitCB (s : State) : StepResult := literalItem 0xCB s
/-- `LIT 0xCC` (R240). -/
def execLitCC (s : State) : StepResult := literalItem 0xCC s
/-- `LIT 0xCD` (R240). -/
def execLitCD (s : State) : StepResult := literalItem 0xCD s
/-- `LIT 0xCE` (R240). -/
def execLitCE (s : State) : StepResult := literalItem 0xCE s
/-- `LIT 0xCF` (R240). -/
def execLitCF (s : State) : StepResult := literalItem 0xCF s
/-- `LIT 0xD0` (R240). -/
def execLitD0 (s : State) : StepResult := literalItem 0xD0 s
/-- `LIT 0xD1` (R240). -/
def execLitD1 (s : State) : StepResult := literalItem 0xD1 s
/-- `LIT 0xD2` (R240). -/
def execLitD2 (s : State) : StepResult := literalItem 0xD2 s
/-- `LIT 0xD3` (R240). -/
def execLitD3 (s : State) : StepResult := literalItem 0xD3 s
/-- `LIT 0xD4` (R240). -/
def execLitD4 (s : State) : StepResult := literalItem 0xD4 s
/-- `LIT 0xD5` (R240). -/
def execLitD5 (s : State) : StepResult := literalItem 0xD5 s
/-- `LIT 0xD6` (R240). -/
def execLitD6 (s : State) : StepResult := literalItem 0xD6 s
/-- `LIT 0xD7` (R240). -/
def execLitD7 (s : State) : StepResult := literalItem 0xD7 s
/-- `LIT 0xD8` (R240). -/
def execLitD8 (s : State) : StepResult := literalItem 0xD8 s
/-- `LIT 0xD9` (R240). -/
def execLitD9 (s : State) : StepResult := literalItem 0xD9 s
/-- `LIT 0xDA` (R240). -/
def execLitDA (s : State) : StepResult := literalItem 0xDA s
/-- `LIT 0xDB` (R240). -/
def execLitDB (s : State) : StepResult := literalItem 0xDB s
/-- `LIT 0xDC` (R240). -/
def execLitDC (s : State) : StepResult := literalItem 0xDC s
/-- `LIT 0xDD` (R240). -/
def execLitDD (s : State) : StepResult := literalItem 0xDD s
/-- `LIT 0xDE` (R240). -/
def execLitDE (s : State) : StepResult := literalItem 0xDE s
/-- `LIT 0xDF` (R240). -/
def execLitDF (s : State) : StepResult := literalItem 0xDF s
/-- `LIT 0xE0` (R240). -/
def execLitE0 (s : State) : StepResult := literalItem 0xE0 s
/-- `LIT 0xE1` (R240). -/
def execLitE1 (s : State) : StepResult := literalItem 0xE1 s
/-- `LIT 0xE2` (R240). -/
def execLitE2 (s : State) : StepResult := literalItem 0xE2 s
/-- `LIT 0xE3` (R240). -/
def execLitE3 (s : State) : StepResult := literalItem 0xE3 s
/-- `LIT 0xE4` (R240). -/
def execLitE4 (s : State) : StepResult := literalItem 0xE4 s
/-- `LIT 0xE5` (R240). -/
def execLitE5 (s : State) : StepResult := literalItem 0xE5 s
/-- `LIT 0xE6` (R240). -/
def execLitE6 (s : State) : StepResult := literalItem 0xE6 s
/-- `LIT 0xE7` (R240). -/
def execLitE7 (s : State) : StepResult := literalItem 0xE7 s
/-- `LIT 0xE8` (R240). -/
def execLitE8 (s : State) : StepResult := literalItem 0xE8 s
/-- `LIT 0xE9` (R240). -/
def execLitE9 (s : State) : StepResult := literalItem 0xE9 s
/-- `LIT 0xEA` (R240). -/
def execLitEA (s : State) : StepResult := literalItem 0xEA s
/-- `LIT 0xEB` (R240). -/
def execLitEB (s : State) : StepResult := literalItem 0xEB s
/-- `LIT 0xEC` (R240). -/
def execLitEC (s : State) : StepResult := literalItem 0xEC s
/-- `LIT 0xED` (R240). -/
def execLitED (s : State) : StepResult := literalItem 0xED s
/-- `LIT 0xEE` (R240). -/
def execLitEE (s : State) : StepResult := literalItem 0xEE s
/-- `LIT 0xEF` (R240). -/
def execLitEF (s : State) : StepResult := literalItem 0xEF s
/-- `LIT 0xF0` (R240). -/
def execLitF0 (s : State) : StepResult := literalItem 0xF0 s
/-- `LIT 0xF1` (R240). -/
def execLitF1 (s : State) : StepResult := literalItem 0xF1 s
/-- `LIT 0xF2` (R240). -/
def execLitF2 (s : State) : StepResult := literalItem 0xF2 s
/-- `LIT 0xF3` (R240). -/
def execLitF3 (s : State) : StepResult := literalItem 0xF3 s
/-- `LIT 0xF4` (R240). -/
def execLitF4 (s : State) : StepResult := literalItem 0xF4 s
/-- `LIT 0xF5` (R240). -/
def execLitF5 (s : State) : StepResult := literalItem 0xF5 s
/-- `LIT 0xF6` (R240). -/
def execLitF6 (s : State) : StepResult := literalItem 0xF6 s
/-- `LIT 0xF7` (R240). -/
def execLitF7 (s : State) : StepResult := literalItem 0xF7 s
/-- `LIT 0xF8` (R240). -/
def execLitF8 (s : State) : StepResult := literalItem 0xF8 s
/-- `LIT 0xF9` (R240). -/
def execLitF9 (s : State) : StepResult := literalItem 0xF9 s
/-- `LIT 0xFA` (R240). -/
def execLitFA (s : State) : StepResult := literalItem 0xFA s
/-- `LIT 0xFB` (R240). -/
def execLitFB (s : State) : StepResult := literalItem 0xFB s
/-- `LIT 0xFC` (R240). -/
def execLitFC (s : State) : StepResult := literalItem 0xFC s
/-- `LIT 0xFD` (R240). -/
def execLitFD (s : State) : StepResult := literalItem 0xFD s
/-- `LIT 0xFE` (R240). -/
def execLitFE (s : State) : StepResult := literalItem 0xFE s
/-- `LIT 0xFF` (R240). -/
def execLitFF (s : State) : StepResult := literalItem 0xFF s

/-- `EOB` (R241). -/
def execEob (s : State) : StepResult := eobItem s

/-- Literal/length symbol 286 (R243). -/
def execReservedLitlen286 (s : State) : StepResult := reservedLitlenItem 286 s

/-- Literal/length symbol 287 (R243). -/
def execReservedLitlen287 (s : State) : StepResult := reservedLitlenItem 287 s

end Sys2Proof.Machine
end

