-- ==== Sys2Proof/Machine/Tokenizer.lean ====
section
/-! DEFINITION. `lz77_tokenizer` with `TOKENIZER = reference` (spec/43_lz77_tokenizer.md R190 to R198, R201; log entry 10):
the unit's functions over the input `d = IN[0..n)`, and the meanings of its operations. -/

namespace Sys2Proof.Machine

/-- The byte at a position of the input. -/
def byteAt (d : List Byte) (i : Nat) : Byte := d.getD i 0

/-- `key(p)` (R191). -/
def keyAt (d : List Byte) (p : Nat) : Nat :=
  (byteAt d p).toNat + (byteAt d (p + 1)).toNat * 2 ^ 8 + (byteAt d (p + 2)).toNat * 2 ^ 16

/-- A position is hashable iff three bytes exist at it (R191). -/
def hashable (d : List Byte) (p : Nat) : Bool := p + Config.minMatch ≤ d.length

/-- The state the tokenizer starts from (R196): `HEAD` all `NIL`, `ins = p = 0`. `PREV` is emptied too, and the queue is kept:
the model's choice (DESIGN CHOICE, log entry 18), which no search can observe, since R36 gives `PREV[c]` a meaning only once
`c` is inserted. -/
def TK.start (queue : List Token) : TK := ⟨[], [], 0, 0, queue⟩

/-- `TK.INSERT(c)` (R192), `c = TK.ins`. -/
def TK.insert (d : List Byte) (tk : TK) : TK :=
  let c := tk.ins
  if hashable d c then
    { tk with prev := tk.prev.assign c (tk.head.get (keyAt d c)), head := tk.head.put (keyAt d c) c, ins := c + 1 }
  else { tk with ins := c + 1 }

/-- `k` insertions in a row. -/
def TK.insertMany (d : List Byte) (tk : TK) : Nat → TK
  | 0 => tk
  | k + 1 => TK.insertMany d (tk.insert d) k

/-- `insert_upto(q)` (R192). -/
def TK.insertUpto (d : List Byte) (q : Nat) (tk : TK) : TK := tk.insertMany d (q - tk.ins)

/-- How far the bytes at `c` and at `q` agree, from `l` on, for at most `fuel` more bytes (the inner loop of R193). -/
def matchLen (d : List Byte) (c q l : Nat) : Nat → Nat
  | 0 => l
  | fuel + 1 => if byteAt d (c + l) = byteAt d (q + l) then matchLen d c q (l + 1) fuel else l

/-- The chain walk of R193: at most `walked` more candidates, `best` the best length and distance so far. -/
def walkChain (d : List Byte) (prev : Cells Nat) (q maxLen : Nat) : Nat → Option Nat → Nat × Nat → Nat × Nat
  | 0, _, best => best
  | _ + 1, none, best => best
  | walked + 1, some c, best =>
    if Config.windowSize < q - c then best
    else if byteAt d (c + best.1) = byteAt d (q + best.1) then
      let l := matchLen d c q 0 maxLen
      let next := if best.1 < l then (l, q - c) else best
      if l = maxLen then next else walkChain d prev q maxLen walked (prev.get c) next
    else walkChain d prev q maxLen walked (prev.get c) best

/-- The first entry of a chain that is below `q`: R353 lets no search at `q` see `q` itself, and R194 makes the answer a function
of the input and `q` alone, so entries inserted by searches further on are passed over uncounted (DEDUCED, log entry 28).
`fuel` is the number of positions from `q` on that are in the chains; in R193's usual case there are none. -/
def firstBelow (prev : Cells Nat) (q : Nat) : Nat → Option Nat → Option Nat
  | 0, c => c
  | _ + 1, none => none
  | fuel + 1, some c => if c < q then some c else firstBelow prev q fuel (prev.get c)

/-- The search of `TK.FINDMATCH(q)` once positions below `q` are in the chains (R193); `none` at a position that is not
hashable. -/
def searchMatch (d : List Byte) (tk : TK) (q : Nat) : Option (Nat × Nat) :=
  if hashable d q then
    let best := walkChain d tk.prev q (min Config.maxMatch (d.length - q)) Config.maxChain
      (firstBelow tk.prev q (tk.ins - q) (tk.head.get (keyAt d q))) (Config.minMatch - 1, 0)
    if Config.minMatch ≤ best.1 then some best else none
  else none

/-- `TK.FINDMATCH(q)` (R193): the best match at `q`, and the tokenizer with positions below `q` inserted. -/
def findMatch (d : List Byte) (tk : TK) (q : Nat) : Option (Nat × Nat) × TK :=
  let tk := tk.insertUpto d q
  (searchMatch d tk q, tk)

/-- Emit a token and move the position. -/
def TK.emit (tk : TK) (t : Token) (width : Nat) : TK := { tk with queue := tk.queue ++ [t], p := tk.p + width }

/-- One iteration of R196's loop, at `p < n`: lazy matching defers to `p + 1` if the match there is strictly longer. -/
def tokenizeStep (d : List Byte) (tk : TK) : TK :=
  let p := tk.p
  let here := findMatch d tk p
  match here.1 with
  | none => here.2.emit (.lit (byteAt d p)) 1
  | some m =>
    let ahead := if p + 1 < d.length then findMatch d here.2 (p + 1) else (none, here.2)
    match ahead.1 with
    | some m2 => if m.1 < m2.1 then ahead.2.emit (.lit (byteAt d p)) 1 else ahead.2.emit (.mtch m.1 m.2) m.1
    | none => ahead.2.emit (.mtch m.1 m.2) m.1

/-- R196's loop: each iteration advances `p`, so as many iterations as bytes are left reach the end (R361). -/
def tokenizeLoop (d : List Byte) (tk : TK) : Nat → TK
  | 0 => tk
  | fuel + 1 => if tk.p < d.length then tokenizeLoop d (tokenizeStep d tk) fuel else tk

/-- `TK.TOKENIZE` (R196), the tokens appended to the queue. -/
def TK.tokenize (d : List Byte) (tk : TK) : TK :=
  (tokenizeLoop d (TK.start tk.queue) d.length).insertUpto d d.length

/-- The token sequence of an input (R190). -/
def tokenize (d : List Byte) : List Token := (TK.tokenize d (TK.start [])).queue

/-- `TK.INSERT(c)` (R192), whose operand must be `TK.ins`. -/
def execTkInsert (c : Nat) (s : State) : StepResult :=
  if c = s.tk.ins then withInput s fun d => .next { s with tk := s.tk.insert d } else .refused .insertOrder

/-- What a search returns. -/
def searchResult (m : Option (Nat × Nat)) : UopResult :=
  match m with
  | some (len, dist) => .found len dist
  | none => .notFound

/-- `TK.FINDMATCH(q)` (R193), whichever positions are in the chains already (R194). At a `q` beyond the input, for which R193
states no result, it inserts up to `q` as everywhere and its answer is a free value (DESIGN CHOICE, log entry 29). -/
def execTkFindmatch (q : Nat) (s : State) : StepResult :=
  withInput s fun d =>
    let found := findMatch d s.tk q
    if q < s.n then .next { s with tk := found.2, result := searchResult found.1 }
    else .next { s with tk := found.2, result := searchResult (Config.freeSearch s.free), free := s.free + 1 }

/-- `TK.TOKENIZE` (R196). -/
def execTkTokenize (s : State) : StepResult := withInput s fun d => .next { s with tk := s.tk.tokenize d }

end Sys2Proof.Machine
end

