-- ==== Sys2Proof/Machine/Fetch.lean ====
section
/-! DEFINITION. How the core comes to its next instruction (spec/10_state.md R21, R40: there is no program counter; the
phase, the cursors and the element expected next say where it is), and the host's side of the interface
(spec/10_state.md R22; spec/70_reset_and_hazards.md R341, R343, R355). -/

namespace Sys2Proof.Machine

/-- What the core does next. -/
inductive Fetched where
  /-- Run this instruction from this state. -/
  | instr (i : Instr) (s : State)
  /-- The word is no instruction of its format. -/
  | reject (r : Reject) (s : State)
  /-- The command ends with this error before any instruction is read. -/
  | raise (e : ErrKind)
  | refuse (r : Refusal)
  | fault (f : Fault)
  /-- Every operation of the command has run (R266). -/
  | finish
  /-- No command: the core waits (R266). -/
  | wait

/-- Decode a word of a format, to run from `s`. -/
def fetchWord (f : Format) (w : Nat) (s : State) : Fetched :=
  match decode f w with
  | .ok i => .instr i s
  | .error r => .reject r s

/-- A word that lies in `IN[0..n)`. -/
def fetchInput (s : State) (k : List Byte → Fetched) : Fetched :=
  match s.input with
  | some d => k d
  | none => .fault .inUnwritten

/-- `PHASE` when the sequencer starts a unit operation of `COMPRESS` (R261, R40). -/
def sequencePhase (w : Nat) (phase : Phase) : Phase :=
  if w = 0x62 then .cTokenize else if w = 0x70 then .cEncode else if w = 0x91 then .cFrame else phase

/-- Take the unit operation `w` off the sequencer's list. -/
def startUop (w : Nat) (rest : List Nat) (s : State) : State :=
  { s with uops := rest, phase := if s.busy then sequencePhase w s.phase else s.phase }

/-- The end of the header (R267, R271): the reader gets the payload and the first block header is expected. -/
def enterInflate (s : State) : State := { s with phase := .dInflate, expect := .blkhdr }

/-- The next element of the gzip member `DECOMPRESS` is reading (R267). The length check precedes every read of `IN`
(R268), and when no optional field is left the payload is handed to the reader (R271). -/
def fetchElement (s : State) : Fetched :=
  match s.expect with
  | .nothing => .finish
  | .gzhdr =>
    if s.n < Config.minContainer then .raise .tooShort
    else fetchInput s fun d => fetchWord .gzhdr (leNat (d.take Config.headerLen)) s
  | .gzopt =>
    match decode .gzopt s.gz.opt.toNat with
    | .ok i => .instr i s
    | .error _ => fetchInput s fun d => .instr (.brInit (payload d s.gz)) (enterInflate s)
  | .blkhdr => fetchWord .blkhdr (bitsAt s.br.src s.br.bitpos 3) s
  | .stored => fetchWord .stored (bitsAt s.br.src s.br.align.bitpos 32) s
  | .litlen => fetchWord .litlen (bitsAt s.br.src s.br.bitpos 14) s
  | .dist => fetchWord .dist (bitsAt s.br.src s.br.bitpos 18) s
  | .gzftr =>
    if s.n < Config.footerLen then .refuse .footerRange
    else fetchInput s fun d => fetchWord .gzftr (leNat ((d.drop (s.n - Config.footerLen)).take Config.footerLen)) s

/-- What the core does next: a unit operation of the sequencer's list, or the next element of the stream while a command
executes, or nothing. -/
def fetch (s : State) : Fetched :=
  match s.uops with
  | w :: rest => fetchWord .uop w (startUop w rest s)
  | [] => if s.busy then fetchElement s else .wait

/-- The end of a command (R266): `OUT` is what it was as the command built it, for `COMPRESS` the writer's buffer (R261: `OUT
<- BW.buf`; log entry 27). -/
def finishCommand (s : State) : State := completeCommand { s with out := s.outBytes }

/-- A word that is no instruction: a bad magic or method is `E_BAD_HEADER` (R269), after step 1 has set `GZ.end` (R268); a
unit-operation word that decodes to nothing is refused. -/
def rejectWord (r : Reject) (s : State) : StepResult :=
  match r with
  | .badMagic => .next (raiseError .badHeader { s with gz := { s.gz with endPos := s.n - Config.footerLen } })
  | .bitCount => .refused .bitCount
  | .symbolRange => .refused .symbolRange
  | .uopCode => .refused .undefinedUop
  | .noOptionalField => .refused .undefinedUop

/-- Do what was fetched from `s`. -/
def runFetched (s : State) (f : Fetched) : StepResult :=
  match f with
  | .instr i t => exec i t
  | .reject r t => rejectWord r t
  | .raise e => .next (raiseError e s)
  | .refuse r => .refused r
  | .fault r => .fault r
  | .finish => .next (finishCommand s)
  | .wait => .next s

/-- One step of the core. -/
def coreStep (s : State) : StepResult := runFetched s (fetch s)

/-! ### The host's side -/

/-- A host access that is its duty not to make while `BUSY = 1` (R355). -/
def hostWrite (s t : State) : StepResult := if s.busy then .refused .hostWriteWhileBusy else .next t

/-- A host access that is its duty not to make before `DONE = 1` (R355, U7). -/
def hostRead (s : State) : StepResult := if s.done then .next s else .refused .hostReadBeforeDone

/-- The reset input (R340, R341): every field as after reset; the host's own list of events goes on, and free values stay
fresh. -/
def hostReset (s : State) : State := { State.reset with inbox := s.inbox, free := s.free }

/-- One host event. A command write is how a command is fetched: it starts in the same step (R260). -/
def hostStep (e : HostEvent) (s : State) : StepResult :=
  match e with
  | .writeIn a b => hostWrite s { s with inBuf := s.inBuf.write a b }
  | .writeInLen n => hostWrite s { s with inLen := n }
  | .writeCmd c => runFetched s (fetchWord .cmd c.toNat { s with cmd := c })
  | .readStatus => .next s
  | .readIn _ => .next s
  | .readOutLen => hostRead s
  | .readOut _ => hostRead s
  | .reset => .next (hostReset s)
  | .turn => coreStep s

/-- The byte the host reads at an address of `IN` (R60, R67): the one it last wrote there; an address never written has none
(log entries 7, 24). -/
def State.hostInByte (s : State) (a : Nat) : Option Byte := s.inBuf.read a

/-- The byte the host reads at an address of `OUT`: only bytes below `OUT_LEN` have one (R22, U6). -/
def State.hostOutByte (s : State) (a : Nat) : Option Byte := if a < s.outLen then s.out[a]? else none

/-! ### Placing one instruction -/

/-- The state in which `DECOMPRESS` reads the bits of `w` next, expecting element `e`. -/
def placeElement (e : Expect) (w : Nat) (s : State) : State :=
  { s with
    status := statusBusy
    phase := .dInflate
    expect := e
    uops := []
    inbox := []
    br := BR.init (leBytes 8 w) }

/-- The state in which `DECOMPRESS` reads its element `e` from an `IN` of the `k` bytes of `w`. -/
def placeInput (e : Expect) (phase : Phase) (k w : Nat) (s : State) : State :=
  { s with
    status := statusBusy
    phase := phase
    expect := e
    uops := []
    inbox := []
    inBuf := Memory.writeBytes [] 0 (leBytes k w)
    inLen := k
    n := k }

/-- Place a word of a format where the next step reads it. -/
def placeWord (f : Format) (w : Nat) (s : State) : State :=
  match f with
  | .cmd => { s with inbox := [.writeCmd (BitVec.ofNat 2 w)] }
  | .uop => { s with inbox := [], uops := [w] }
  | .blkhdr => placeElement .blkhdr w s
  | .litlen => placeElement .litlen w s
  | .dist => placeElement .dist w s
  | .stored => placeElement .stored w s
  | .gzhdr => placeInput .gzhdr .dHeader Config.minContainer w s
  | .gzftr => placeInput .gzftr .dFooter Config.footerLen w s
  | .gzopt =>
    { s with
      status := statusBusy
      phase := .dHeader
      expect := .gzopt
      uops := []
      inbox := []
      gz := { s.gz with flg := BitVec.ofNat 8 w, opt := BitVec.ofNat 8 w } }

end Sys2Proof.Machine
end

