-- ==== Sys2Proof/Machine/Step.lean ====
section
/-! DEFINITION. One step of the machine: the host's next event if there is one, otherwise one step of the core. -/

namespace Sys2Proof.Machine

/-- One step (R9: two agents, the host and the core; the list of host events says which moves next). -/
def step (s : State) : Host.Outcome State Fault Refusal :=
  match s.inbox with
  | [] => coreStep s
  | e :: rest => hostStep e { s with inbox := rest }

/-- The state whose next step runs the instruction of a bare table word (log entries 12, 13). -/
def State.withFetchWord (s : State) (nbits w : Nat) : State :=
  placeWord (tableFormat nbits (w % 2 ^ nbits)) (w % 2 ^ nbits) s

end Sys2Proof.Machine
end

