-- ==== Sys2Proof/Machine/Codec.lean ====
section
/-! DEFINITION. The two commands as the functions the spec gives them (spec/46_gzip_framer.md R261 "As a function", R267):
what a run of the machine computes. -/

namespace Sys2Proof.Machine

/-- The bytes `ENC.BLOCK(tokens)` writes from a fresh writer (R210). -/
def blockBytes (tokens : List Token) : List Byte := (encodeBlockBits tokens BW.empty).buf

/-- A gzip member around the block of a token sequence (R90, R261). -/
def memberOf (d : List Byte) (tokens : List Token) : List Byte := gzHeader ++ blockBytes tokens ++ gzFooter d

/-- `COMPRESS(x)` (R261). -/
def compressBytes (d : List Byte) : List Byte := memberOf d (tokenize d)

/-- What `DEC.INFLATE` makes of a payload (R230, R271). -/
def inflateBytes (pay : List Byte) : Except ErrKind (List Byte) :=
  match inflate ⟨BR.init pay, [], 0, 0⟩ with
  | .ok _ d => .ok d.out
  | .raise e _ => .error e

/-- The footer's two fields (R94). -/
def footerCrc (y : List Byte) : Word32 := word32At y (y.length - 8)
def footerSize (y : List Byte) : Word32 := word32At y (y.length - 4)

/-- `DECOMPRESS(y)` (R267): the first error met in this order, or the output. -/
def decompressBytes (y : List Byte) : Except ErrKind (List Byte) :=
  match parseHeader y ⟨0, 0, 0, 0, 0, 0⟩ with
  | .raise e _ => .error e
  | .ok _ gz =>
    match inflateBytes (payload y gz) with
    | .error e => .error e
    | .ok out =>
      match checkFooter out (footerCrc y) (footerSize y) with
      | some e => .error e
      | none => .ok out

end Sys2Proof.Machine
end

