-- ==== Sys2Proof/Safety.lean ====
section
/-! DEFINITION. The terms in which claims about `CORE` are made: the machine's invariant, the bits a writer holds, the
validity of a token sequence (spec/43_lz77_tokenizer.md R199), the candidates of a search (R194), the size of a block
(spec/44_deflate_fixed_encoder.md R215), and what the host can observe (spec/70_reset_and_hazards.md R362). -/

namespace Sys2Proof.Machine

/-! ### The invariant -/

/-- `BW`'s invariant (R27): all accumulator bits at and above `cnt` are 0. -/
def BW.Ok (bw : BW) : Prop := bw.cnt < 8 ∧ bw.acc.toNat < 2 ^ bw.cnt

/-- `BR`'s invariant (R29, R30): the cursor is within the source, loaded bits end on a byte, and never more than 23 are
held. -/
def BR.Ok (br : BR) : Prop :=
  br.bitpos + br.held ≤ 8 * br.src.length ∧ (br.bitpos + br.held) % 8 = 0 ∧ br.held ≤ 23

/-- What R23 says of `STATUS`. -/
def State.StatusOk (s : State) : Prop :=
  s.status.getLsbD 3 = false ∧ ¬(s.busy = true ∧ s.done = true) ∧ (s.err = true → s.done = true) ∧
    (s.err = false → s.errCode = 0) ∧ (s.err = true → ∃ e : ErrKind, s.errCode = e.code)

/-- Which elements are expected in which phase (R40, R267). -/
def expectFits (phase : Phase) (expect : Expect) : Prop :=
  match expect with
  | .nothing => phase ≠ .dHeader ∧ phase ≠ .dInflate
  | .gzhdr | .gzopt => phase = .dHeader
  | .blkhdr | .stored | .litlen | .dist => phase = .dInflate
  | .gzftr => phase = .dFooter

/-- `PHASE` is `IDLE` exactly when `BUSY = 0` (R40), and the sequencer's registers fit the phase: what a command has still to
run are the last of R261's four unit operations. -/
def State.SequencerOk (s : State) : Prop :=
  (s.phase = .idle ↔ s.busy = false) ∧ expectFits s.phase s.expect ∧
    (s.busy = true → s.uops <:+ compressUops ∧ (s.uops ≠ [] → s.phase.compressing = true))

/-- The machine's invariant. -/
structure State.Inv (s : State) : Prop where
  memory : Memory.wf s.inBuf = true
  head : Cells.wf s.tk.head = true
  prev : Cells.wf s.tk.prev = true
  writer : s.bw.Ok
  reader : s.br.Ok
  status : s.StatusOk
  sequencer : s.SequencerOk
  outLen : s.outLen ≤ s.out.length

/-! ### Bits -/

/-- The bits of a byte in stream order (R11). -/
def byteBits (b : Byte) : List Bool := (List.range 8).map b.getLsbD

/-- The low `n` bits of an integer, least significant first (R64). -/
def lowBits (v n : Nat) : List Bool := (List.range n).map v.testBit

/-- A Huffman code, most significant bit first (R63). -/
def codeBits (code len : Nat) : List Bool := (lowBits code len).reverse

/-- The bit sequence written so far (R27). -/
def BW.bits (bw : BW) : List Bool := bw.buf.flatMap byteBits ++ (List.range bw.cnt).map bw.acc.getLsbD

/-- The reader `n` bits on; what it holds of look-ahead is `h` (R43). -/
def BR.past (br : BR) (n h : Nat) : BR := ⟨br.src, br.bitpos + n, h⟩

/-- The unread bits of a reader begin with these (R29). -/
def BR.begins (br : BR) (bits : List Bool) : Prop :=
  bits.length ≤ br.avail ∧ ∀ i < bits.length, some (bitAt br.src (br.bitpos + i)) = bits[i]?

/-- The values of reads of these widths, one after another (R151); `none` if one fails. -/
def readAll (br : BR) : List Nat → Option (List Nat)
  | [] => some []
  | n :: ns =>
    match br.readBits n with
    | .ok v br' => (readAll br' ns).map (v :: ·)
    | .raise _ _ => none

/-- The zero bits up to the next byte boundary after `n` bits (R143). -/
def padBits (n : Nat) : List Bool := List.replicate ((8 - n % 8) % 8) false

/-! ### Tokens -/

/-- `expand` (R199), from the output `o`: `none` where a match reaches before the start. -/
def expandFrom (o : List Byte) : List Token → Option (List Byte)
  | [] => some o
  | .lit b :: ts => expandFrom (o ++ [b]) ts
  | .mtch len dist :: ts => if dist ≤ o.length then expandFrom (copyMatch o dist len) ts else none

/-- The contract of a token sequence for an input (R199 (a) to (c)). -/
def ValidTokens (d : List Byte) (ts : List Token) : Prop :=
  ts.all Token.ok = true ∧ expandFrom [] ts = some d

/-- How many input bytes a token stands for (R199 (d)). -/
def Token.width (t : Token) : Nat :=
  match t with
  | .lit _ => 1
  | .mtch len _ => len

/-- The stream bits of a token: a literal's code (R211), or a match's length code, length extra bits, distance code and
distance extra bits (R102, R213). -/
def tokenStream (t : Token) : List Bool :=
  match t with
  | .lit b => codeBits (litlenCode b.toNat).1 (litlenCode b.toNat).2
  | .mtch len dist =>
    codeBits (litlenCode (257 + lenIndex len)).1 (litlenCode (257 + lenIndex len)).2 ++
      lowBits (len - lenBase (lenIndex len)) (lenExtra (lenIndex len)) ++
      codeBits (distIndex dist) 5 ++ lowBits (dist - distBase (distIndex dist)) (distExtra (distIndex dist))

/-- The stream bits of a fixed-Huffman block body: the tokens, then `EOB` (R99). -/
def bodyStream (ts : List Token) : List Bool := ts.flatMap tokenStream ++ List.replicate 7 false

/-- `bits(t)` (R215). -/
def Token.bits (t : Token) : Nat :=
  match t with
  | .lit b => if b.toNat ≤ 143 then 8 else 9
  | .mtch len dist =>
    (if lenIndex len ≤ 22 then 7 else 8) + lenExtra (lenIndex len) + 5 + distExtra (distIndex dist)

/-- `B`, the bits of a block (R215). -/
def blockBits (ts : List Token) : Nat := 3 + (ts.map Token.bits).sum + 7

/-- The bytes at `c` and at `q` agree for `l` bytes. -/
def agree (d : List Byte) (c q l : Nat) : Prop := ∀ i < l, byteAt d (c + i) = byteAt d (q + i)

/-- `cand(q)` (R194): earlier positions in the window with the same three bytes, nearest first, at most 128. -/
def candidates (d : List Byte) (q : Nat) : List Nat :=
  ((List.range q).reverse.filter fun c => q - c ≤ Config.windowSize && keyAt d c == keyAt d q).take Config.maxChain

/-- The longest match a position can have: `min(258, n - q)` (R193). -/
def longest (d : List Byte) (q : Nat) : Nat := min Config.maxMatch (d.length - q)

/-- What a search at `q` finds when it starts from empty chains: a function of the input and of `q` alone (R194). -/
def bestMatch (d : List Byte) (q : Nat) : Option (Nat × Nat) := (findMatch d (TK.start []) q).1

/-- R196's loop over that function: from position `p`, a literal where there is no match or where the match at `p + 1` is
strictly longer, otherwise the match. -/
def lazyFrom (d : List Byte) (p : Nat) : Nat → List Token
  | 0 => []
  | fuel + 1 =>
    if p < d.length then
      match bestMatch d p, if p + 1 < d.length then bestMatch d (p + 1) else none with
      | none, _ => .lit (byteAt d p) :: lazyFrom d (p + 1) fuel
      | some m, none => .mtch m.1 m.2 :: lazyFrom d (p + m.1) fuel
      | some m, some m2 =>
        if m.1 < m2.1 then .lit (byteAt d p) :: lazyFrom d (p + 1) fuel else .mtch m.1 m.2 :: lazyFrom d (p + m.1) fuel
    else []

/-- The last `dist` bytes repeated cyclically, `len` bytes of them (R244). -/
def cyclic (o : List Byte) (dist len : Nat) : List Byte :=
  (List.range len).map fun k => o.getD (o.length - dist + k % dist) 0

/-! ### The optional header fields (R270) -/

/-- FEXTRA at `pos` ends at `past`: its two-byte little-endian length, and that many bytes. -/
def fextraEnds (d : List Byte) (pos past : Nat) : Prop :=
  past = pos + 2 + ((byteAt d pos).toNat + 256 * (byteAt d (pos + 1)).toNat)

/-- FNAME or FCOMMENT at `pos` ends at `past`, just after its first NUL. -/
def textEnds (d : List Byte) (pos past : Nat) : Prop :=
  ∃ k, past = k + 1 ∧ pos ≤ k ∧ byteAt d k = 0 ∧ ∀ j, pos ≤ j → j < k → byteAt d j ≠ 0

/-- A field is there when its `FLG` bit is set, and takes no room otherwise. -/
def fieldEnds (present : Bool) (ends : Nat → Nat → Prop) (pos past : Nat) : Prop := if present then ends pos past else past = pos

/-- The optional fields `flg` announces, in R270's order from offset 10 (FEXTRA, FNAME, FCOMMENT, FHCRC), end at `past`. -/
def headerEnds (d : List Byte) (flg : Byte) (past : Nat) : Prop :=
  ∃ afterExtra afterName afterComment,
    fieldEnds (flg.getLsbD 2) (fextraEnds d) 10 afterExtra ∧
      fieldEnds (flg.getLsbD 3) (textEnds d) afterExtra afterName ∧
      fieldEnds (flg.getLsbD 4) (textEnds d) afterName afterComment ∧
      fieldEnds (flg.getLsbD 1) (fun pos past => past = pos + 2) afterComment past

/-! ### What is observed -/

/-- The core is idle, with nothing from the host and nothing left to run. -/
def State.Quiet (s : State) : Prop := s.inbox = [] ∧ s.uops = [] ∧ s.busy = false

/-- The host writes a command code next. -/
def State.withCommand (s : State) (c : BitVec 2) : State := { s with inbox := [.writeCmd c] }

/-- The host has written `IN[0..IN_LEN)`, and it is `d` (R343 steps 2 and 3). -/
def State.Holds (s : State) (d : List Byte) : Prop := d.length = s.inLen ∧ s.inBuf.readBytes 0 s.inLen = some d

/-- The state shows the success of a command whose result is `out` (R266). -/
def State.Succeeded (s : State) (out : List Byte) : Prop :=
  s.status = 0x02#8 ∧ s.phase = .idle ∧ s.out = out ∧ s.outLen = out.length ∧ s.irq = true

/-- The state shows that a command ended in error `e` (R266, R320). -/
def State.Failed (s : State) (e : ErrKind) : Prop :=
  s.status = e.code ++ 0x6#4 ∧ s.phase = .idle ∧ s.outLen = 0 ∧ s.irq = true

end Sys2Proof.Machine

namespace Sys2Proof

open Sys2Proof.Machine

/-- The error kinds an instruction can raise: R300's "raised by" column, element by element for the stream (R231, R236, R237,
R240 to R245). -/
def Instr.raises (i : Instr) : List ErrKind :=
  match i with
  | .reservedLitlen286 | .reservedLitlen287 | .reservedDist30 | .reservedDist31 => [.truncated, .badSymbol]
  | .blkStored _ | .blkFixed _ => [.truncated]
  | .blkDynamic _ | .blkReserved _ => [.truncated, .badBlockType]
  | .storedBody _ _ => [.truncated, .lenNlen]
  | .gzhdr _ _ _ _ => [.tooShort]
  | .gzoptFextra | .gzoptFname | .gzoptFcomment | .gzoptFhcrc => [.badFieldLen]
  | .gzftr _ _ => [.crcMismatch, .sizeMismatch]
  | .brReadbits _ | .brSkipbits _ | .hdLitlen | .hdDist | .decBlkhdr => [.truncated]
  | .decStored => [.truncated, .lenNlen]
  | .decFixed => [.truncated, .badSymbol, .badDistance]
  | .decInflate => [.truncated, .badBlockType, .lenNlen, .badSymbol, .badDistance]
  | .gzParsehdr => [.tooShort, .badHeader, .badFieldLen]
  | .gzCheckftr => [.crcMismatch, .sizeMismatch]
  | _ =>
    match i.format with
    | .litlen => [.truncated]
    | .dist => [.truncated, .badDistance]
    | _ => []

end Sys2Proof
end

