-- ==== Sys2Proof/Certificates/Slice0/Obligations.lean ====
section
/-! DEFINITION. The statements about `CORE`. In every statement `{ s with .. }` is the frame: what it does not name (every
register, flag and byte of `IN` among it) is as before. `s.br.past n h` is the reader `n` bits on; its look-ahead `h` is
not observable (R43). What an operation returns to its caller is read off `result`, the model's latch (log entry 5). -/

section

open Sys2Proof Sys2Proof.Machine

/-! ### Encoding -/

/-- A few words of each family, written from the tables of spec/30_encoding.md (R96, R97, R101, R102, R130, R132). -/
def Obligations.WordsDecodeAsTheTableWrites : Prop :=
  decode .litlen 0b00001100 = .ok .lit00 ∧ decode .litlen 0b10001001 = .ok .lit61 ∧
    decode .litlen 0b111111101 = .ok .lit8F ∧ decode .litlen 0b000010011 = .ok .lit90 ∧
    decode .litlen 0b111111111 = .ok .litFF ∧ decode .litlen 0b0000000 = .ok .eob ∧
    decode .litlen 0b1000000 = .ok .len257 ∧ decode .litlen (0b0111000 + 2 * 2 ^ 7) = .ok (.len270 2) ∧
    decode .litlen 0b10100011 = .ok .len285 ∧ decode .litlen 0b01100011 = .ok .reservedLitlen286 ∧
    decode .litlen 0b11100011 = .ok .reservedLitlen287 ∧ decode .dist 0b00000 = .ok .dist0 ∧
    decode .dist (0b00110 + 17 * 2 ^ 5) = .ok (.dist12 17) ∧ decode .dist 0b01111 = .ok .reservedDist30 ∧
    decode .dist 0b11111 = .ok .reservedDist31 ∧ decode .blkhdr 0b001 = .ok (.blkStored 1) ∧
    decode .blkhdr 0b011 = .ok (.blkFixed 1) ∧ decode .blkhdr 0b100 = .ok (.blkDynamic 0) ∧
    decode .blkhdr 0b111 = .ok (.blkReserved 1) ∧ decode .stored 0xFFFC0003 = .ok (.storedBody 3 0xFFFC) ∧
    decode .gzhdr 0xFF000000000000088B1F = .ok (.gzhdr 0 0 0 0xFF) ∧ decode .gzopt 0x1E = .ok .gzoptFextra ∧
    decode .gzopt 0x1A = .ok .gzoptFname ∧ decode .gzopt 0x12 = .ok .gzoptFcomment ∧
    decode .gzopt 0x02 = .ok .gzoptFhcrc ∧ decode .gzftr 0x00000001E8B7BE43 = .ok (.gzftr 0xE8B7BE43 1) ∧
    decode .cmd 0b00 = .ok .cmdNone ∧ decode .cmd 0b01 = .ok .compress ∧ decode .cmd 0b10 = .ok .decompress ∧
    decode .cmd 0b11 = .ok .cmdReserved ∧ decode .uop 0x62 = .ok .tkTokenize ∧ decode .uop 0x80 = .ok .decInflate

/-- Decoding inverts encoding on every well-formed instruction. -/
def Obligations.DecodeInvertsEncode : Prop :=
  ∀ i : Instr, WellFormed i = true → decode i.format (encode i).word = .ok i

/-- The decoder gives only well-formed instructions of the format it reads. -/
def Obligations.DecodedInstructionsFitTheirFormat : Prop :=
  ∀ (f : Format) (w : Nat) (i : Instr), decode f w = .ok i → i.format = f ∧ WellFormed i = true

/-- R172: no code is a prefix of another, and every bit sequence begins with exactly one code; the code of a symbol with its
extra bits above it decodes to that symbol's element. -/
def Obligations.CodesArePrefixFreeAndComplete : Prop :=
  (∀ s s', s < 288 → s' < 288 →
      codeBits (litlenCode s).1 (litlenCode s).2 <+: codeBits (litlenCode s').1 (litlenCode s').2 → s = s') ∧
    (∀ w : Nat, ∃ s, s < 288 ∧ w % 2 ^ (litlenCode s).2 = rev (litlenCode s).1 (litlenCode s).2 ∧
      decode .litlen w = .ok (symbolInstr s (w / 2 ^ (litlenCode s).2))) ∧
    (∀ j j', j < 32 → j' < 32 → codeBits j 5 <+: codeBits j' 5 → j = j') ∧
    ∀ w : Nat, ∃ j, j < 32 ∧ w % 2 ^ 5 = rev j 5 ∧ decode .dist w = .ok (distInstr j (w / 2 ^ 5))

/-! ### The step, commands, reset -/

/-- When the bits the core reads next decode to an instruction, the step is that instruction's meaning: for a command write,
for a unit operation of the sequencer's list, and for each element of the stream. -/
def Obligations.StepRunsTheDecodedInstruction : Prop :=
  (∀ (s : State) c rest i, s.inbox = .writeCmd c :: rest → decode .cmd c.toNat = .ok i →
      step s = exec i { s with inbox := rest, cmd := c }) ∧
    (∀ (s : State) w rest i, s.inbox = [] → s.uops = w :: rest → decode .uop w = .ok i →
      step s = exec i { s with uops := rest, phase := if s.busy then sequencePhase w s.phase else s.phase }) ∧
    ∀ (s : State) i, s.inbox = [] → s.uops = [] → s.busy = true →
      (s.expect = .blkhdr → decode .blkhdr (bitsAt s.br.src s.br.bitpos 3) = .ok i → step s = exec i s) ∧
      (s.expect = .litlen → decode .litlen (bitsAt s.br.src s.br.bitpos 14) = .ok i → step s = exec i s) ∧
      (s.expect = .dist → decode .dist (bitsAt s.br.src s.br.bitpos 18) = .ok i → step s = exec i s) ∧
      (s.expect = .stored → decode .stored (bitsAt s.br.src s.br.align.bitpos 32) = .ok i → step s = exec i s) ∧
      (s.expect = .gzopt → decode .gzopt s.gz.opt.toNat = .ok i → step s = exec i s) ∧
      ∀ d, s.input = some d →
        (s.expect = .gzhdr → 18 ≤ s.n → decode .gzhdr (leNat (d.take 10)) = .ok i → step s = exec i s) ∧
        (s.expect = .gzopt → s.gz.opt &&& 0x1E#8 = 0 →
          step s = exec (.brInit (payload d s.gz)) { s with phase := .dInflate, expect := .blkhdr }) ∧
        (s.expect = .gzftr → 8 ≤ s.n → decode .gzftr (leNat (d.drop (s.n - 8))) = .ok i → step s = exec i s)

/-- R340: what reset leaves, and that the core then is idle until the host writes a command. -/
def Obligations.ResetLeavesTheCoreIdle : Prop :=
  State.reset.cmd = 0 ∧ State.reset.status = 0x00#8 ∧ State.reset.outLen = 0 ∧ State.reset.phase = .idle ∧
    State.reset.irq = false ∧ ∀ k, Host.Core.run Sys2Proof.core k State.reset = .next State.reset

/-- The invariant holds after reset. -/
def Obligations.ResetSatisfiesInvariant : Prop := State.reset.Inv

/-- Every step, of the host or of the core, keeps the invariant: canonical memories, the writer's and the reader's registers
in range, a legal `STATUS`, `PHASE` idle exactly when not busy, `OUT_LEN` within `OUT`; and the model's sequencer (`expect`,
`uops`; log entry 3) fits the phase. -/
def Obligations.StepKeepsInvariant : Prop := ∀ s t : State, s.Inv → step s = .next t → t.Inv

/-- R266, R261 (`OUT <- BW.buf` at the end of `COMPRESS`): completion with success; and with nothing to run the core waits. That
completion is a step of its own (log entry 2), taken when `expect` and `uops` are empty, and that a phase of `COMPRESS` there
tells which command ends (log entry 3), is the model's sequencer; that the member is stored in `BW.buf` until then is log
entry 27. -/
def Obligations.CommandsCompleteAndTheCoreWaits : Prop :=
  (∀ s : State, s.inbox = [] → s.uops = [] → s.busy = true → s.expect = .nothing →
      ∃ t o, step s = .next t ∧ (o = if s.phase.compressing then s.bw.buf else s.out) ∧
        t = { s with status := 0x02#8, phase := .idle, out := o, outLen := o.length }) ∧
    ∀ s : State, s.Quiet → step s = .next s

/-- R320, R301, R300 (the codes), R315 (`irq`): error entry. That `expect` and `uops` are emptied is the model's sequencer (log
entry 3), and that `free` counts the value drawn for `OUT` is the model's free value (log entry 8). -/
def Obligations.ErrorEntry : Prop :=
  (∀ (e : ErrKind) (s : State), ∃ o, raiseError e s =
      { s with status := e.code ++ 0x6#4, outLen := 0, phase := .idle, expect := .nothing, uops := [], out := o,
               free := s.free + 1 }) ∧
    (∀ (e : ErrKind) (s : State), (raiseError e s).irq = true ∧ (∀ a, (raiseError e s).hostOutByte a = none) ∧
      (s.inbox = [] → step (raiseError e s) = .next (raiseError e s))) ∧
    [ErrKind.tooShort, .badHeader, .badFieldLen, .truncated, .badBlockType, .lenNlen, .badDistance, .badSymbol,
        .crcMismatch, .sizeMismatch].map ErrKind.code = [1, 2, 3, 4, 5, 6, 7, 8, 9, 10] ∧
    (∀ e : ErrKind, e.cls = .header ↔ e = .badHeader ∨ e = .badFieldLen) ∧
    (∀ e : ErrKind, e.cls = .stream ↔ e = .truncated ∨ e = .tooShort) ∧
    (∀ e : ErrKind, e.cls = .block ↔ e = .badBlockType ∨ e = .lenNlen ∨ e = .badDistance ∨ e = .badSymbol) ∧
    ∀ e : ErrKind, e.cls = .footer ↔ e = .crcMismatch ∨ e = .sizeMismatch

/-- R131: the reserved command, and any command while busy, is refused. -/
def Obligations.ReservedCommandsAreRefused : Prop :=
  (∀ s : State, exec .cmdReserved s = .refused .cmdReserved) ∧
    ∀ (s : State) c rest, s.inbox = .writeCmd c :: rest → c = 3 ∨ s.busy = true → ∃ r, step s = .refused r

/-- R260: what the start of a command leaves. The values of the registers the rule calls "written before use" (`BR`, `DEC`,
`GZ`, `CRC`), of `PREV` and the token queue, and of the sequencer's registers are the model's choice (log entries 3, 18); so is that `PHASE`, which the rule only has leave
`IDLE`, is `C_TOKENIZE` at the start of `COMPRESS` (log entry 15). -/
def Obligations.CommandsStart : Prop :=
  ∀ s : State, s.busy = false →
    exec .cmdNone s = .next s ∧
      exec .compress s = .next
        { s with
          status := 0x01#8
          n := s.inLen
          out := []
          outLen := 0
          bw := ⟨[], 0, 0⟩
          br := ⟨[], 0, 0⟩
          crc := 0xFFFFFFFF#32
          tk := ⟨[], [], 0, 0, []⟩
          dec := ⟨0, 0, 0⟩
          gz := ⟨0, 0, 0, 0, 0, 0⟩
          expect := .nothing
          uops := [0x90, 0x62, 0x70, 0x91]
          result := .empty
          phase := .cTokenize } ∧
      exec .decompress s = .next
        { s with
          status := 0x01#8
          n := s.inLen
          out := []
          outLen := 0
          bw := ⟨[], 0, 0⟩
          br := ⟨[], 0, 0⟩
          crc := 0xFFFFFFFF#32
          tk := ⟨[], [], 0, 0, []⟩
          dec := ⟨0, 0, 0⟩
          gz := ⟨0, 0, 0, 0, 0, 0⟩
          expect := .gzhdr
          uops := []
          result := .empty
          phase := .dHeader }

/-- R60, R71, R341, R355: the host writes only while idle, reads `IN` back as it wrote it, reads results only when `DONE = 1`,
and reset stops everything. The values `hostReset` gives to unspecified state are the model's choice (log entry 6), and so is
that an address of `IN` never written has no byte to read (log entries 7, 24). -/
def Obligations.HostAccesses : Prop :=
  ∀ (s : State) (rest : List HostEvent),
    (∀ a b, s.inbox = .writeIn a b :: rest →
      step s = if s.busy then .refused .hostWriteWhileBusy
        else .next { s with inbox := rest, inBuf := s.inBuf.write a b }) ∧
    (∀ k, s.inbox = .writeInLen k :: rest →
      step s = if s.busy then .refused .hostWriteWhileBusy else .next { s with inbox := rest, inLen := k }) ∧
    (s.inbox = .readStatus :: rest → step s = .next { s with inbox := rest }) ∧
    (∀ a, s.inbox = .readIn a :: rest → step s = .next { s with inbox := rest }) ∧
    (∀ a b x, ({ s with inBuf := s.inBuf.write a b } : State).hostInByte x = if x = a then some b else s.hostInByte x) ∧
    (s.inbox = .readOutLen :: rest →
      step s = if s.done then .next { s with inbox := rest } else .refused .hostReadBeforeDone) ∧
    (∀ a, s.inbox = .readOut a :: rest →
      step s = if s.done then .next { s with inbox := rest } else .refused .hostReadBeforeDone) ∧
    (s.inbox = .turn :: rest → step s = coreStep { s with inbox := rest }) ∧
    (s.inbox = .reset :: rest → step s = .next { State.reset with inbox := rest, free := s.free })

/-- R25: the core never writes `IN`, and no operation reads a byte of it at or beyond `n`. -/
def Obligations.InputIsReadOnly : Prop :=
  (∀ (i : Instr) (s t : State), exec i s = .next t → t.inBuf = s.inBuf ∧ t.inLen = s.inLen) ∧
    (∀ s t : State, s.inbox = [] → step s = .next t → t.inBuf = s.inBuf ∧ t.inLen = s.inLen ∧ t.cmd = s.cmd) ∧
    ∀ (s t : State) (m : Memory), Memory.readBytes m 0 s.n = s.inBuf.readBytes 0 s.n → s.inbox = [] →
      step s = .next t → step { s with inBuf := m } = .next { t with inBuf := m }

/-- R26: while a command runs `OUT` only grows at its end; at `DONE`, `OUT_LEN` is `|OUT|` or, after an error, 0. It is said of
the stored bytes, and of `OUT` as R60 has it, the member being built while `COMPRESS` runs (`State.outBytes`, log entry 27). -/
def Obligations.OutputIsAppendOnly : Prop :=
  ∀ s t : State, s.inbox = [] → s.busy = true → step s = .next t →
    (t.busy = true → s.out <+: t.out ∧ t.outLen = s.outLen) ∧ (s.Inv → t.busy = true → s.outBytes <+: t.outBytes) ∧
      (t.busy = false → t.done = true ∧ if t.err then t.outLen = 0 else t.outLen = t.out.length)

/-- R302, R300 ("raised by"): an instruction changes `STATUS` only by starting a command, or by raising one of the error
kinds `Instr.raises` lists for it, element by element: a literal, the end of block, a length, a stored or a fixed header
only `E_TRUNCATED`; a distance that or `E_BAD_DISTANCE`; a reserved symbol that or `E_BAD_SYMBOL`; and so on. -/
def Obligations.OnlyTheNamedOperationsRaise : Prop :=
  ∀ (i : Instr) (s t : State), exec i s = .next t →
    t.status = s.status ∨ (∃ e ∈ i.raises, t.Failed e) ∨ (i = .compress ∨ i = .decompress) ∧ t.status = 0x01#8

/-! ### The two commands -/

/-- R261, R266: `COMPRESS` on any input the host has written runs to success, and its result is `COMPRESS(x)`. The
number of steps is the model's (log entry 2); the tokens are the reference tokenizer's (R201, log entry 10). R60, R68: before
the footer, `OUT` is the member as far as it is built, the header and then the `k` bytes of the DEFLATE stream (log entry
27). -/
def Obligations.CompressRunsToCompletion : Prop :=
  ∀ (s : State) (d : List Byte), s.Quiet → s.Holds d →
    (∃ t, Host.Core.run Sys2Proof.core 6 (s.withCommand 1) = .next t ∧
      t.Succeeded (gzHeader ++ blockBytes (tokenize d) ++ gzFooter d) ∧ t.inBuf = s.inBuf ∧ t.inLen = s.inLen) ∧
      ∃ t, Host.Core.run Sys2Proof.core 4 (s.withCommand 1) = .next t ∧ t.busy = true ∧
        t.outBytes = gzHeader ++ blockBytes (tokenize d) ∧ t.deflateBytes = blockBytes (tokenize d)

/-- R267, R310, R266: `DECOMPRESS` runs, element by element, to the output or to the first error of R267's order. That a
step is one element is the model's (log entries 2, 3). -/
def Obligations.DecompressRunsToCompletion : Prop :=
  ∀ (s : State) (y : List Byte), s.Quiet → s.Holds y →
    ∃ t, Host.Core.run Sys2Proof.core (8 * y.length + 10) (s.withCommand 2) = .next t ∧
      (match decompressBytes y with
        | .ok out => t.Succeeded out
        | .error e => t.Failed e) ∧ t.inBuf = s.inBuf ∧ t.inLen = s.inLen

/-- R362: the observable result of a command is a function of the command and of `IN[0..IN_LEN)` alone. -/
def Obligations.ResultDependsOnInputAlone : Prop :=
  ∀ (s s' : State) (d : List Byte) (c : BitVec 2), c = 1 ∨ c = 2 → s.Quiet → s'.Quiet → s.Holds d → s'.Holds d →
    ∃ k t t', Host.Core.run Sys2Proof.core k (s.withCommand c) = .next t ∧
      Host.Core.run Sys2Proof.core k (s'.withCommand c) = .next t' ∧ t.done = true ∧ t'.done = true ∧
      t.err = t'.err ∧ t.errCode = t'.errCode ∧ t.outLen = t'.outLen ∧ ∀ a, t.hostOutByte a = t'.hostOutByte a

/-- R275: round trip. -/
def Obligations.RoundTrip : Prop := ∀ x : List Byte, decompressBytes (compressBytes x) = .ok x

/-- R201, R247, R265 (e), R274: round trip whatever valid tokens the tokenizer chose, and whatever follows the final block. -/
def Obligations.RoundTripForAnyTokenizer : Prop :=
  ∀ (x : List Byte) (ts : List Token) (junk : List Byte), ValidTokens x ts →
    decompressBytes (gzHeader ++ blockBytes ts ++ junk ++ gzFooter x) = .ok x

/-- R273: a member cut short fails in the Stream class. -/
def Obligations.TruncatedMembersFail : Prop :=
  ∀ (x : List Byte) (ts : List Token) (k : Nat), ValidTokens x ts → k < (memberOf x ts).length →
    ∃ e, decompressBytes ((memberOf x ts).take k) = .error e ∧ e.cls = .stream

/-- R272, R273: a wrong footer field fails with its own kind. -/
def Obligations.CorruptedFootersFail : Prop :=
  ∀ (x : List Byte) (ts : List Token) (c z : Word32), ValidTokens x ts →
    (c ≠ crc32 x → decompressBytes (gzHeader ++ blockBytes ts ++ leBytes 4 c.toNat ++ leBytes 4 (x.length % 2 ^ 32)) =
        .error .crcMismatch) ∧
      (z ≠ BitVec.ofNat 32 x.length →
        decompressBytes (gzHeader ++ blockBytes ts ++ leBytes 4 (crc32 x).toNat ++ leBytes 4 z.toNat) =
          .error .sizeMismatch)

/-! ### The bit writer -/

/-- R141: `WRITEBITS` appends the low `n` bits of the value, least significant first, and keeps R27's invariant. -/
def Obligations.WritebitsAppendsTheLowBits : Prop :=
  ∀ (s : State) (v n : Nat), s.bw.Ok → n ≤ 16 →
    ∃ bw, exec (.bwWritebits v n) s = .next { s with bw := bw } ∧ bw.Ok ∧ bw.bits = s.bw.bits ++ lowBits v n

/-- R140, R142 (which the spec derives from R141), R143, R28: the other operations of the writer. That `APPENDBYTE` off a byte
boundary is refused is log entry 14. -/
def Obligations.WriterInitAlignAppend : Prop :=
  ∀ (s : State) (b : Byte),
    exec .bwInit s = .next { s with bw := ⟨[], 0, 0⟩ } ∧
      (s.bw.Ok → ∃ bw, exec .bwAlign s = .next { s with bw := bw } ∧ bw.cnt = 0 ∧ bw.acc = 0 ∧
        bw.bits = s.bw.bits ++ padBits s.bw.cnt) ∧
      (s.bw.Ok → s.bw.cnt = 0 →
        exec (.bwAppendbyte b) s = .next { s with bw := { s.bw with buf := s.bw.buf ++ [b] } } ∧
          exec (.bwAppendbyte b) s = exec (.bwWritebits b.toNat 8) s) ∧
      (s.bw.cnt ≠ 0 → exec (.bwAppendbyte b) s = .refused .unaligned)

/-! ### The bit reader -/

/-- R146, R147: `READBITS`. -/
def Obligations.ReadbitsReturnsTheNextBits : Prop :=
  ∀ (s : State) (n : Nat), n ≤ 16 →
    (n ≤ s.br.avail → ∃ v h, exec (.brReadbits n) s = .next { s with br := s.br.past n h, result := .value v } ∧
        v < 2 ^ n ∧ ∀ i < n, v.testBit i = bitAt s.br.src (s.br.bitpos + i)) ∧
      (s.br.avail < n → exec (.brReadbits n) s = .next (raiseError .truncated s))

/-- R148, R351: `PEEKBITS` returns what a read would, zero bits past the end, and does not advance. -/
def Obligations.PeekDoesNotConsume : Prop :=
  ∀ (s : State) (n : Nat), n ≤ 16 →
    ∃ v h, exec (.brPeekbits n) s = .next { s with br := s.br.past 0 h, result := .value v } ∧
      (∀ i, v.testBit i = (decide (i < n ∧ i < s.br.avail) && bitAt s.br.src (s.br.bitpos + i))) ∧
      (∃ h', exec (.brPeekbits n) { s with br := s.br.past 0 h, result := .value v } =
        .next { s with br := s.br.past 0 h', result := .value v }) ∧
      (n ≤ s.br.avail → ∃ h', exec (.brReadbits n) s = .next { s with br := s.br.past n h', result := .value v })

/-- R145, R149 (which the spec derives from R146), R150: the other operations of the reader; `ALIGN` keeps the whole bytes already loaded. -/
def Obligations.ReaderInitSkipAlign : Prop :=
  ∀ (s : State),
    (∀ src, exec (.brInit src) s = .next { s with br := ⟨src, 0, 0⟩ }) ∧
      (∀ n, n ≤ 16 → n ≤ s.br.avail → ∃ h, exec (.brSkipbits n) s = .next { s with br := s.br.past n h }) ∧
      (∀ n, n ≤ 16 → s.br.avail < n → exec (.brSkipbits n) s = .next (raiseError .truncated s)) ∧
      ∃ b h, exec .brAlign s = .next { s with br := ⟨s.br.src, b, h⟩ } ∧ b % 8 = 0 ∧ s.br.bitpos ≤ b ∧
        b < s.br.bitpos + 8 ∧ h = s.br.held - s.br.held % 8 ∧
        (s.br.Ok → b ≤ 8 * s.br.src.length ∧ b + h = s.br.bitpos + s.br.held)

/-- R151: reading what the writer wrote returns it. -/
def Obligations.WrittenFieldsReadBack : Prop :=
  ∀ fields : List (Nat × Nat), (∀ f ∈ fields, f.2 ≤ 16) →
    readAll (BR.init (fields.foldl (fun bw f => bw.writeBits f.1 f.2) BW.empty).align.buf) (fields.map Prod.snd) =
      some (fields.map fun f => f.1 % 2 ^ f.2)

/-- Operands outside the ranges, and writers outside the preconditions, that R141, R142, R146, R173, R174, R192, R210, R213,
R244, R262 and R264 state. The rules do not say that they are refused: for U11 and U12 spec/93_implementation_defined.md
does, and for the rest it is the model's reading (DEDUCED, log entry 14). -/
def Obligations.OutOfRangeOperandsAreRefused : Prop :=
  ∀ (s : State) (v n len dist : Nat),
    (16 < n → exec (.bwWritebits v n) s = .refused .bitCount ∧ exec (.brReadbits n) s = .refused .bitCount ∧
        exec (.brPeekbits n) s = .refused .bitCount ∧ exec (.brSkipbits n) s = .refused .bitCount) ∧
      (288 ≤ n → exec (.heLitlen n) s = .refused .symbolRange) ∧
      (32 ≤ n → exec (.heDist n) s = .refused .symbolRange) ∧
      (len < 3 ∨ 258 < len ∨ dist < 1 ∨ 32768 < dist →
        exec (.encMatch len dist) s = .refused .matchRange ∧ exec (.decCopy len dist) s = .refused .matchRange) ∧
      (s.out.length < dist → exec (.decCopy len dist) s = .refused .matchRange) ∧
      (n ≠ s.tk.ins → exec (.tkInsert n) s = .refused .insertOrder) ∧
      (s.bw.cnt ≠ 0 → exec .encBlock s = .refused .unaligned ∧ exec .gzWritehdr s = .refused .unaligned ∧
        exec .gzWriteftr s = .refused .unaligned)

/-! ### CRC-32 -/

/-- R161, R162, R163: the operations of the CRC unit; and, inferred from how R160 generates the table (log entry 16), folding a
byte in through the table is the same as eight shift-and-xor steps on the whole register. -/
def Obligations.CrcOperations : Prop :=
  ∀ (s : State) (b : Byte),
    exec .crcInit s = .next { s with crc := 0xFFFFFFFF#32 } ∧
      exec (.crcUpdate b) s =
        .next { s with crc := crcTab (((s.crc ^^^ b.setWidth 32) &&& 0xFF#32).setWidth 8) ^^^ (s.crc >>> 8) } ∧
      exec (.crcUpdate b) s = .next { s with crc := crcShift^[8] (s.crc ^^^ b.setWidth 32) } ∧
      exec .crcFinal s = .next { s with result := .value (s.crc ^^^ 0xFFFFFFFF#32).toNat }

/-! ### Huffman codes -/

/-- R173, R174, R63: the encoder appends the symbol's code, most significant bit first. -/
def Obligations.HuffmanEncoderWritesCodes : Prop :=
  ∀ (s : State) (sym d : Nat), s.bw.Ok →
    (sym < 288 → ∃ bw, exec (.heLitlen sym) s = .next { s with bw := bw } ∧ bw.Ok ∧
        bw.bits = s.bw.bits ++ codeBits (litlenCode sym).1 (litlenCode sym).2) ∧
      (d < 32 → ∃ bw, exec (.heDist d) s = .next { s with bw := bw } ∧ bw.Ok ∧ bw.bits = s.bw.bits ++ codeBits d 5)

/-- R177, R178, R179: decoding is exactly prefix decoding of the bits that are left. -/
def Obligations.HuffmanDecoderReadsExactlyOneCode : Prop :=
  ∀ s : State,
    ((∃ sym h, sym < 288 ∧ s.br.begins (codeBits (litlenCode sym).1 (litlenCode sym).2) ∧
          exec .hdLitlen s = .next { s with br := s.br.past (litlenCode sym).2 h, result := .value sym }) ∨
        (∀ sym < 288, ¬s.br.begins (codeBits (litlenCode sym).1 (litlenCode sym).2)) ∧
          ∃ h, exec .hdLitlen s = .next (raiseError .truncated { s with br := s.br.past 0 h })) ∧
      ((∃ d h, d < 32 ∧ s.br.begins (codeBits d 5) ∧
          exec .hdDist s = .next { s with br := s.br.past 5 h, result := .value d }) ∨
        s.br.avail < 5 ∧ exec .hdDist s = .next (raiseError .truncated s))

/-- R180: the code law. -/
def Obligations.CodeLaw : Prop :=
  (∀ (s : State) (sym : Nat), sym < 288 → s.br.begins (heLitlen sym BW.empty).bits →
      ∃ h, exec .hdLitlen s = .next { s with br := s.br.past (litlenCode sym).2 h, result := .value sym }) ∧
    ∀ (s : State) (d : Nat), d < 32 → s.br.begins (heDist d BW.empty).bits →
      ∃ h, exec .hdDist s = .next { s with br := s.br.past 5 h, result := .value d }

/-! ### The tokenizer -/

/-- R192: `TK.INSERT` of the next position. -/
def Obligations.InsertUpdatesTheChains : Prop :=
  ∀ (s : State) (d : List Byte), s.input = some d → s.tk.prev.wf = true →
    ∃ tk, exec (.tkInsert s.tk.ins) s = .next { s with tk := tk } ∧ tk.ins = s.tk.ins + 1 ∧ tk.p = s.tk.p ∧
      tk.queue = s.tk.queue ∧
      (s.tk.ins + 3 ≤ s.n →
        (∀ k, tk.head.get k = if k = keyAt d s.tk.ins then some s.tk.ins else s.tk.head.get k) ∧
          ∀ c, tk.prev.get c = if c = s.tk.ins then s.tk.head.get (keyAt d s.tk.ins) else s.tk.prev.get c) ∧
      (s.n < s.tk.ins + 3 → tk.head = s.tk.head ∧ tk.prev = s.tk.prev)

/-- R194: the closed form of `FINDMATCH`, when the chains hold the first `k` positions, for every `k`: fewer than `q`, and more
after a search further on (log entry 28). At a `q` beyond the input, which R193 does not give it, it inserts up to `q` and
its answer is a free value (log entry 29). -/
def Obligations.FindmatchClosedForm : Prop :=
  ∀ (s : State) (d : List Byte) (q : Nat), s.input = some d →
    (s.n ≤ q → ∃ r, exec (.tkFindmatch q) s = .next
        { s with tk := s.tk.insertMany d (q - s.tk.ins), result := searchResult r, free := s.free + 1 }) ∧
      (q < s.n → ∀ k, s.tk.head = ((TK.start []).insertMany d k).head → s.tk.prev = ((TK.start []).insertMany d k).prev →
        s.tk.ins = k →
          ∃ r, exec (.tkFindmatch q) s = .next { s with tk := s.tk.insertMany d (q - k), result := searchResult r } ∧
            r = bestMatch d q ∧
            (s.n < q + 3 → r = none) ∧
            (q + 3 ≤ s.n → candidates d q = [] → r = none) ∧
            (q + 3 ≤ s.n → candidates d q ≠ [] →
              ∃ L c, r = some (L, q - c) ∧ c ∈ candidates d q ∧ 3 ≤ L ∧ L ≤ longest d q ∧ agree d c q L ∧
                (∀ c' ∈ candidates d q, ∀ l ≤ longest d q, agree d c' q l → l ≤ L) ∧
                ∀ c' ∈ candidates d q, agree d c' q L → c' ≤ c))

/-- R196, R197: `TK.TOKENIZE` appends the tokens of the input, ends at its end, and every position is then in the chains. That
it starts from an empty `PREV` and adds to the queue it finds is the model's choice (log entry 18). -/
def Obligations.TokenizeRuns : Prop :=
  ∀ (s : State) (d : List Byte), s.input = some d →
    exec .tkTokenize s = .next
      { s with tk := { (TK.start (s.tk.queue ++ tokenize d)).insertMany d s.n with p := s.n } }

/-- R194, R196: the tokens are those of the lazy loop over the pure search. -/
def Obligations.TokenizeIsTheLazyLoop : Prop := ∀ d : List Byte, tokenize d = lazyFrom d 0 d.length

/-- R199: the contract of the token sequence. -/
def Obligations.TokenizeContract : Prop :=
  ∀ d : List Byte, ValidTokens d (tokenize d) ∧ ((tokenize d).map Token.width).sum = d.length ∧
    (tokenize d).length ≤ d.length

/-! ### The block encoder -/

/-- R212: symbol selection. -/
def Obligations.SymbolSelection : Prop :=
  (∀ len, 3 ≤ len → len ≤ 258 →
      lenIndex len < 29 ∧ lenBase (lenIndex len) ≤ len ∧ (∀ i < 29, lenBase i ≤ len → i ≤ lenIndex len) ∧
        len - lenBase (lenIndex len) < 2 ^ lenExtra (lenIndex len)) ∧
    (∀ dist, 1 ≤ dist → dist ≤ 32768 →
      distIndex dist < 30 ∧ distBase (distIndex dist) ≤ dist ∧ (∀ j < 30, distBase j ≤ dist → j ≤ distIndex dist) ∧
        dist - distBase (distIndex dist) < 2 ^ distExtra (distIndex dist)) ∧
    lenIndex 258 = 28

/-- R211, R213, R214: a literal, a match and the end of block append their stream formats. -/
def Obligations.EncoderWritesTheStreamFormat : Prop :=
  ∀ (s : State), s.bw.Ok →
    (∀ b, ∃ bw, exec (.encLiteral b) s = .next { s with bw := bw } ∧ bw.Ok ∧
        bw.bits = s.bw.bits ++ tokenStream (.lit b)) ∧
      (∀ len dist, 3 ≤ len → len ≤ 258 → 1 ≤ dist → dist ≤ 32768 →
        ∃ bw, exec (.encMatch len dist) s = .next { s with bw := bw } ∧ bw.Ok ∧
          bw.bits = s.bw.bits ++ tokenStream (.mtch len dist)) ∧
      ∃ bw, exec .encEob s = .next { s with bw := bw } ∧ bw.cnt = 0 ∧ bw.acc = 0 ∧
        bw.bits = s.bw.bits ++ List.replicate 7 false ++ padBits (s.bw.cnt + 7)

/-- R210, R96: `ENC.BLOCK` appends one final fixed-Huffman block. -/
def Obligations.EncodeBlock : Prop :=
  ∀ s : State, s.bw.Ok → s.bw.cnt = 0 → s.tk.queue.all Token.ok = true →
    ∃ bw, exec .encBlock s = .next { s with bw := bw, tk := { s.tk with queue := [] } } ∧ bw.cnt = 0 ∧ bw.acc = 0 ∧
      bw.bits = s.bw.bits ++ [true, true, false] ++ bodyStream s.tk.queue ++ padBits (3 + (bodyStream s.tk.queue).length)

/-- R215, R265 (b) to (d): the size of a block and the shape of a member. -/
def Obligations.SizeAndShapeOfTheMember : Prop :=
  ∀ (x : List Byte) (ts : List Token), ts.all Token.ok = true →
    (blockBytes ts).length = (blockBits ts + 7) / 8 ∧ (memberOf x ts).length = 10 + (blockBits ts + 7) / 8 + 8 ∧
      20 ≤ (memberOf x ts).length ∧ (memberOf x ts).take 10 = [0x1F, 0x8B, 0x08, 0, 0, 0, 0, 0, 0, 0xFF] ∧
      (memberOf x ts).drop ((memberOf x ts).length - 8) =
        leBytes 4 (crc32 x).toNat ++ leBytes 4 (x.length % 2 ^ 32) ∧ (memberOf [] []).length = 20

/-! ### The block decoder -/

/-- R231: `DEC.BLKHDR`. -/
def Obligations.BlockHeader : Prop :=
  ∀ s : State,
    (3 ≤ s.br.avail → ∃ f t h, exec .decBlkhdr s =
        .next { s with br := s.br.past 3 h, dec := { s.dec with bfinal := f, btype := t } } ∧
      f = BitVec.ofBool (bitAt s.br.src s.br.bitpos) ∧ t.getLsbD 0 = bitAt s.br.src (s.br.bitpos + 1) ∧
      t.getLsbD 1 = bitAt s.br.src (s.br.bitpos + 2)) ∧
      (s.br.avail < 3 → ∃ t, exec .decBlkhdr s = .next t ∧ t.Failed .truncated)

/-- R237, R238: `DEC.STORED`. -/
def Obligations.StoredBlocks : Prop :=
  ∀ (s : State) (before : List Byte), 8 * before.length < s.br.bitpos + 8 → s.br.bitpos ≤ 8 * before.length →
    (∀ data rest : List Byte, data.length < 2 ^ 16 →
      s.br.src = before ++ leBytes 2 data.length ++ leBytes 2 (0xFFFF - data.length) ++ data ++ rest →
        ∃ h, exec .decStored s = .next
          { s with br := ⟨s.br.src, 8 * (before.length + 4 + data.length), h⟩, out := s.out ++ data }) ∧
      (∀ (len nlen : Nat) (rest : List Byte), len < 2 ^ 16 → nlen < 2 ^ 16 → nlen ≠ 0xFFFF - len →
        s.br.src = before ++ leBytes 2 len ++ leBytes 2 nlen ++ rest →
          ∃ t, exec .decStored s = .next t ∧ t.Failed .lenNlen) ∧
      (∀ (len : Nat) (data : List Byte), len < 2 ^ 16 → data.length < len →
        s.br.src = before ++ leBytes 2 len ++ leBytes 2 (0xFFFF - len) ++ data →
          ∃ t, exec .decStored s = .next t ∧ t.Failed .truncated) ∧
      (s.br.src.length < before.length + 4 → ∃ t, exec .decStored s = .next t ∧ t.Failed .truncated)

/-- R239 to R242: `DEC.FIXED` on a body of valid tokens. -/
def Obligations.FixedBlocks : Prop :=
  ∀ (s : State) (ts : List Token) (o : List Byte), s.br.begins (bodyStream ts) → ts.all Token.ok = true →
    expandFrom s.out ts = some o →
      ∃ h, exec .decFixed s = .next { s with br := s.br.past (bodyStream ts).length h, out := o }

/-- R230, R247: `DEC.INFLATE` on one final fixed-Huffman block of valid tokens, whatever follows it. That it runs from an `OUT`
that already holds bytes, which R230 has empty, is the model's choice (log entry 33). -/
def Obligations.InflateDecodesTheEncodersBlock : Prop :=
  ∀ (s : State) (ts : List Token) (o : List Byte), s.br.begins ([true, true, false] ++ bodyStream ts) →
    ts.all Token.ok = true → expandFrom s.out ts = some o →
      ∃ h, exec .decInflate s = .next
        { s with br := s.br.past (3 + (bodyStream ts).length) h, out := o, dec := { s.dec with bfinal := 1, btype := 1 } }

/-- R230, R239, R361: the loops run until their own end: unrolling them once gives the same loop on what is left. -/
def Obligations.DecoderLoopsRunToTheirEnd : Prop :=
  (∀ d : Inflater, inflate d =
      (readBlockHeader d).bind fun _ d =>
        (if d.btype = 0 then readStored d else if d.btype = 1 then readFixed d
          else (Res.raise .badBlockType d : Res Inflater Unit)).bind fun _ d =>
            if d.bfinal = 1 then .ok () d else inflate d) ∧
    ∀ d : Inflater, readFixed d = (readFixedItem d).bind fun done d => if done then .ok () d else readFixed d

/-- R244, R350: `DEC.COPY` repeats the last `dist` bytes cyclically. -/
def Obligations.CopyIsCyclic : Prop :=
  ∀ (s : State) (len dist : Nat), 3 ≤ len → len ≤ 258 → 1 ≤ dist → dist ≤ 32768 → dist ≤ s.out.length →
    exec (.decCopy len dist) s = .next { s with out := s.out ++ cyclic s.out dist len }

/-! ### The elements of the stream -/

/-- R240, R241: each of the 256 literal elements (`litInstr b`, from `lit00` to `litFF`) consumes its code and appends its
byte; the end of block consumes its code, and the exit test of R230 follows. What is expected after it, and that `PHASE` is then
`D_FOOTER` if the block was final, is the model's sequencer (log entry 3). -/
def Obligations.LiteralAndEndOfBlockElements : Prop :=
  (∀ (s : State) (b : Byte),
    ((litlenCode b.toNat).2 ≤ s.br.avail →
        ∃ h, exec (litInstr b) s = .next { s with br := s.br.past (litlenCode b.toNat).2 h, out := s.out ++ [b] }) ∧
      (s.br.avail < (litlenCode b.toNat).2 → ∃ t, exec (litInstr b) s = .next t ∧ t.Failed .truncated)) ∧
    ∀ s : State,
      (7 ≤ s.br.avail → ∃ h, exec .eob s = .next
          { s with
            br := s.br.past 7 h
            expect := if s.dec.bfinal = 1 then .gzftr else .blkhdr
            phase := if s.dec.bfinal = 1 then .dFooter else s.phase }) ∧
        (s.br.avail < 7 → ∃ t, exec .eob s = .next t ∧ t.Failed .truncated)

/-- R242, R113: each length element (`lenInstr i e`, from `len257` to `len285`) sets the length that waits for its distance
(the latch and what is expected next are the model's sequencer, log entries 3, 25). -/
def Obligations.LengthElements : Prop :=
  ∀ (s : State) (i e : Nat), i < 29 → e < 2 ^ lenExtra i →
    ((litlenCode (257 + i)).2 + lenExtra i ≤ s.br.avail → ∃ h, exec (lenInstr i e) s = .next
        { s with
          br := s.br.past ((litlenCode (257 + i)).2 + lenExtra i) h
          dec := { s.dec with len := lenBase i + e }
          expect := .dist }) ∧
      (s.br.avail < (litlenCode (257 + i)).2 + lenExtra i → ∃ t, exec (lenInstr i e) s = .next t ∧ t.Failed .truncated)

/-- R242, R115, R244, R245: each distance element (`distInstr j x`, from `dist0` to `dist29`) copies the waiting length (its latch
`dec.len` and what is expected next are the model's, log entries 25, 3). -/
def Obligations.DistanceElements : Prop :=
  ∀ (s : State) (j x : Nat), j < 30 → x < 2 ^ distExtra j →
    (5 + distExtra j ≤ s.br.avail → distBase j + x ≤ s.out.length → ∃ h, exec (distInstr j x) s = .next
        { s with
          br := s.br.past (5 + distExtra j) h
          out := s.out ++ cyclic s.out (distBase j + x) s.dec.len
          expect := .litlen }) ∧
      (5 + distExtra j ≤ s.br.avail → s.out.length < distBase j + x →
        ∃ t, exec (distInstr j x) s = .next t ∧ t.Failed .badDistance) ∧
      (s.br.avail < 5 + distExtra j → ∃ t, exec (distInstr j x) s = .next t ∧ t.Failed .truncated)

/-- R243: the reserved symbols raise `E_BAD_SYMBOL` as soon as their code is read. -/
def Obligations.ReservedSymbols : Prop :=
  ∀ s : State,
    (8 ≤ s.br.avail →
        (∃ h, exec .reservedLitlen286 s = .next (raiseError .badSymbol { s with br := s.br.past 8 h })) ∧
          ∃ h, exec .reservedLitlen287 s = .next (raiseError .badSymbol { s with br := s.br.past 8 h })) ∧
      (s.br.avail < 8 → (∃ t, exec .reservedLitlen286 s = .next t ∧ t.Failed .truncated) ∧
        ∃ t, exec .reservedLitlen287 s = .next t ∧ t.Failed .truncated) ∧
      (5 ≤ s.br.avail →
        (∃ h, exec .reservedDist30 s = .next (raiseError .badSymbol { s with br := s.br.past 5 h })) ∧
          ∃ h, exec .reservedDist31 s = .next (raiseError .badSymbol { s with br := s.br.past 5 h })) ∧
      (s.br.avail < 5 → (∃ t, exec .reservedDist30 s = .next t ∧ t.Failed .truncated) ∧
        ∃ t, exec .reservedDist31 s = .next t ∧ t.Failed .truncated)

/-- R231, R236, R237, R239: the block headers; the unsupported and the reserved type raise `E_BAD_BLOCK_TYPE`, in a
payload of one byte too (log entry 31). What is expected next is the model's sequencer (log entry 3). -/
def Obligations.BlockHeaderElements : Prop :=
  ∀ (s : State) (f : BitVec 1),
    (3 ≤ s.br.avail →
        (∃ h, exec (.blkStored f) s = .next
          { s with br := s.br.past 3 h, dec := { s.dec with bfinal := f, btype := 0 }, expect := .stored }) ∧
        (∃ h, exec (.blkFixed f) s = .next
          { s with br := s.br.past 3 h, dec := { s.dec with bfinal := f, btype := 1 }, expect := .litlen }) ∧
        (∃ h, exec (.blkDynamic f) s = .next (raiseError .badBlockType
          { s with br := s.br.past 3 h, dec := { s.dec with bfinal := f, btype := 2 } })) ∧
        ∃ h, exec (.blkReserved f) s = .next (raiseError .badBlockType
          { s with br := s.br.past 3 h, dec := { s.dec with bfinal := f, btype := 3 } })) ∧
      (s.br.avail < 3 → ∀ i ∈ [Instr.blkStored f, .blkFixed f, .blkDynamic f, .blkReserved f],
        ∃ t, exec i s = .next t ∧ t.Failed .truncated)

/-- R237, R238, R98: a stored body. What is expected after it, and that `PHASE` is then `D_FOOTER` if the block was final, is the
model's sequencer (log entry 3). -/
def Obligations.StoredBodyElement : Prop :=
  ∀ (s : State) (before : List Byte) (len nlen : BitVec 16), 8 * before.length < s.br.bitpos + 8 →
    s.br.bitpos ≤ 8 * before.length →
      (∀ data rest : List Byte, s.br.src = before ++ leBytes 2 len.toNat ++ leBytes 2 nlen.toNat ++ data ++ rest →
        (nlen = ~~~len → data.length = len.toNat → ∃ h, exec (.storedBody len nlen) s = .next
            { s with
              br := ⟨s.br.src, 8 * (before.length + 4 + data.length), h⟩
              out := s.out ++ data
              expect := if s.dec.bfinal = 1 then .gzftr else .blkhdr
              phase := if s.dec.bfinal = 1 then .dFooter else s.phase }) ∧
          (nlen ≠ ~~~len → ∃ t, exec (.storedBody len nlen) s = .next t ∧ t.Failed .lenNlen) ∧
          (nlen = ~~~len → data.length < len.toNat → rest = [] →
            ∃ t, exec (.storedBody len nlen) s = .next t ∧ t.Failed .truncated)) ∧
        (s.br.src.length < before.length + 4 → ∃ t, exec (.storedBody len nlen) s = .next t ∧ t.Failed .truncated)

/-! ### The gzip container -/

/-- R268, R269: the fixed header, and the steps of a `DECOMPRESS` that expects one and does not find it: fewer than 18 bytes,
or a first three bytes that are not `1F 8B 08`. `opt` (the fields still to skip) and `expect` are the model's (log entries
25, 3). -/
def Obligations.HeaderElement : Prop :=
  ∀ (s : State),
    (∀ (flg : Byte) (mtime : BitVec 32) (xfl os : Byte),
      (18 ≤ s.n → exec (.gzhdr flg mtime xfl os) s = .next
          { s with gz := { s.gz with flg := flg, pos := 10, endPos := s.n - 8, opt := flg }, expect := .gzopt }) ∧
        (s.n < 18 → exec (.gzhdr flg mtime xfl os) s = .next (raiseError .tooShort s))) ∧
      (s.inbox = [] → s.uops = [] → s.busy = true → s.expect = .gzhdr →
        (s.n < 18 → step s = .next (raiseError .tooShort s)) ∧
          ∀ d, s.input = some d → 18 ≤ s.n → d.take 3 ≠ [0x1F, 0x8B, 0x08] →
            step s = .next (raiseError .badHeader { s with gz := { s.gz with endPos := s.n - 8 } }))

/-- R270, R93: each optional field is skipped if it ends before the footer, and raises `E_BAD_FIELD_LEN` otherwise. `opt` is the
model's (log entry 25), and so is what a byte beyond the input reads as where `GZ.end` is beyond `n` (log entry 30). -/
def Obligations.OptionalFieldElements : Prop :=
  ∀ (s : State) (d : List Byte), s.input = some d →
    (∀ x, x = (byteAt d s.gz.pos).toNat + 256 * (byteAt d (s.gz.pos + 1)).toNat →
        (s.gz.pos + 2 + x ≤ s.gz.endPos → s.gz.endPos ≤ s.n → exec .gzoptFextra s = .next
          { s with gz := { s.gz with pos := s.gz.pos + 2 + x, opt := s.gz.opt &&& ~~~0x04 } }) ∧
        (s.gz.endPos < s.gz.pos + 2 + x → s.gz.endPos ≤ s.n →
          exec .gzoptFextra s = .next (raiseError .badFieldLen s))) ∧
      (∀ k, s.gz.pos ≤ k → k < s.gz.endPos → byteAt d k = 0 → (∀ j, s.gz.pos ≤ j → j < k → byteAt d j ≠ 0) →
        exec .gzoptFname s = .next { s with gz := { s.gz with pos := k + 1, opt := s.gz.opt &&& ~~~0x08 } } ∧
          exec .gzoptFcomment s = .next { s with gz := { s.gz with pos := k + 1, opt := s.gz.opt &&& ~~~0x10 } }) ∧
      ((∀ j, s.gz.pos ≤ j → j < s.gz.endPos → byteAt d j ≠ 0) →
        exec .gzoptFname s = .next (raiseError .badFieldLen s) ∧
          exec .gzoptFcomment s = .next (raiseError .badFieldLen s)) ∧
      (s.gz.pos + 2 ≤ s.gz.endPos → exec .gzoptFhcrc s = .next
        { s with gz := { s.gz with pos := s.gz.pos + 2, opt := s.gz.opt &&& ~~~0x02 } }) ∧
      (s.gz.endPos < s.gz.pos + 2 → exec .gzoptFhcrc s = .next (raiseError .badFieldLen s))

/-- R272: the footer checks, as an element and as a unit operation; where both fields are wrong, either kind may be
reported (R312, U4; log entry 9). That nothing is expected after the element is the model's sequencer (log entry 3). -/
def Obligations.FooterChecks : Prop :=
  ∀ (s : State) (crc size : Word32),
    (crc32 s.out = crc → BitVec.ofNat 32 s.out.length = size → exec (.gzftr crc size) s = .next
        { s with crc := crcRun s.out, gz := { s.gz with crcExpect := crc, sizeExpect := size }, expect := .nothing }) ∧
      (crc32 s.out ≠ crc → BitVec.ofNat 32 s.out.length = size →
        ∃ t, exec (.gzftr crc size) s = .next t ∧ t.Failed .crcMismatch) ∧
      (crc32 s.out = crc → BitVec.ofNat 32 s.out.length ≠ size →
        ∃ t, exec (.gzftr crc size) s = .next t ∧ t.Failed .sizeMismatch) ∧
      (crc32 s.out ≠ crc → BitVec.ofNat 32 s.out.length ≠ size →
        ∃ t, exec (.gzftr crc size) s = .next t ∧ (t.Failed .crcMismatch ∨ t.Failed .sizeMismatch)) ∧
      ∀ body : List Byte, s.input = some (body ++ leBytes 4 crc.toNat ++ leBytes 4 size.toNat) →
        (crc32 s.out = crc → BitVec.ofNat 32 s.out.length = size → exec .gzCheckftr s = .next
            { s with crc := crcRun s.out, gz := { s.gz with crcExpect := crc, sizeExpect := size } }) ∧
          (crc32 s.out ≠ crc → BitVec.ofNat 32 s.out.length = size →
            ∃ t, exec .gzCheckftr s = .next t ∧ t.Failed .crcMismatch) ∧
          (crc32 s.out = crc → BitVec.ofNat 32 s.out.length ≠ size →
            ∃ t, exec .gzCheckftr s = .next t ∧ t.Failed .sizeMismatch) ∧
          (crc32 s.out ≠ crc → BitVec.ofNat 32 s.out.length ≠ size →
            ∃ t, exec .gzCheckftr s = .next t ∧ (t.Failed .crcMismatch ∨ t.Failed .sizeMismatch))

/-- R262, R264: the header and the footer `COMPRESS` writes. That the header goes into `BW.buf`, which R60 and R68 have hold
only what follows it, is the model's choice (log entry 27), and so is that it goes after what stands there (log entry 32). -/
def Obligations.HeaderAndFooterWrites : Prop :=
  ∀ s : State, s.bw.cnt = 0 →
    exec .gzWritehdr s = .next
        { s with bw := { s.bw with buf := s.bw.buf ++ [0x1F, 0x8B, 0x08, 0, 0, 0, 0, 0, 0, 0xFF] } } ∧
      ∀ d, s.input = some d → exec .gzWriteftr s = .next
        { s with
          bw := { s.bw with buf := s.bw.buf ++ leBytes 4 (crc32 d).toNat ++ leBytes 4 (s.n % 2 ^ 32) }
          crc := crcRun d }

/-- R268, R269, R270: `GZ.PARSEHDR`. Where the optional fields end is said by `headerEnds`, from the bytes themselves. `opt` (the
fields still to skip, none once they are skipped) is the model's (log entry 25). -/
def Obligations.ParseHeader : Prop :=
  ∀ s : State,
    (s.n < 18 → exec .gzParsehdr s = .next (raiseError .tooShort s)) ∧
      ∀ d, s.input = some d → 18 ≤ s.n →
        (d.take 3 ≠ [0x1F, 0x8B, 0x08] →
            exec .gzParsehdr s = .next (raiseError .badHeader { s with gz := { s.gz with endPos := s.n - 8 } })) ∧
          (d.take 3 = [0x1F, 0x8B, 0x08] →
            (∀ pos ≤ s.n - 8, headerEnds d (byteAt d 3) pos → exec .gzParsehdr s = .next
              { s with gz := { s.gz with flg := byteAt d 3, pos := pos, endPos := s.n - 8, opt := 0 } }) ∧
            ((∀ pos ≤ s.n - 8, ¬headerEnds d (byteAt d 3) pos) → exec .gzParsehdr s = .next (raiseError .badFieldLen
              { s with gz := { s.gz with flg := byteAt d 3, pos := 10, endPos := s.n - 8, opt := byteAt d 3 } })) ∧
            (byteAt d 3 &&& 0x1E = 0 → headerEnds d (byteAt d 3) 10))

end
end

