-- ==== Sys2Proof/Laws/Bits.lean ====
section
/-! SUPPORT. The laws of bit reversal, of the bits of a byte sequence and of the little-endian integers. -/

namespace Sys2Proof.Machine

@[simp] theorem rev_zero (v : Nat) : rev v 0 = 0 := rfl

theorem rev_succ (v n : Nat) : rev v (n + 1) = v % 2 * 2 ^ n + rev (v / 2) n := rfl

theorem rev_lt (v n : Nat) : rev v n < 2 ^ n := by
  induction n generalizing v with
  | zero => simp
  | succ n ih =>
    rw [rev_succ, Nat.pow_succ]
    have h1 := ih (v / 2)
    have h2 : v % 2 = 0 ∨ v % 2 = 1 := by omega
    rcases h2 with h2 | h2 <;> rw [h2] <;> omega

/-- R12: result bit `i` is bit `n-1-i` of the value. -/
theorem rev_testBit (v n i : Nat) : (rev v n).testBit i = (decide (i < n) && v.testBit (n - 1 - i)) := by
  induction n generalizing v with
  | zero => simp
  | succ n ih =>
    rw [rev_succ, Nat.mul_comm, Nat.testBit_two_pow_mul_add _ (rev_lt _ _)]
    split
    · rename_i h
      rw [ih, ← Nat.testBit_succ]
      simp only [h, decide_true, Bool.true_and, show i < n + 1 by omega]
      congr 1
      omega
    · rename_i h
      by_cases hi : i = n
      · subst hi
        rcases Nat.mod_two_eq_zero_or_one v with h2 | h2 <;> simp [h2, Nat.testBit_zero]
      · have : ¬ i < n + 1 := by omega
        obtain ⟨k, hk⟩ : ∃ k, i - n = k + 1 := ⟨i - n - 1, by omega⟩
        simp only [this, decide_false, Bool.false_and, hk]
        rcases Nat.mod_two_eq_zero_or_one v with h2 | h2 <;> simp [h2, Nat.testBit_succ]

/-- Reversing twice restores the low bits. -/
theorem rev_rev (v n : Nat) (h : v < 2 ^ n) : rev (rev v n) n = v := by
  apply Nat.eq_of_testBit_eq
  intro i
  rw [rev_testBit, rev_testBit]
  by_cases hi : i < n
  · simp only [hi, decide_true, Bool.true_and, show n - 1 - i < n by omega]
    congr 1
    omega
  · simp only [hi, decide_false, Bool.false_and]
    exact (Nat.testBit_lt_two_pow (Nat.lt_of_lt_of_le h (Nat.pow_le_pow_right (by omega) (by omega)))).symm

/-- Only the low `n` bits of the value matter. -/
theorem rev_mod (v n : Nat) : rev (v % 2 ^ n) n = rev v n := by
  apply Nat.eq_of_testBit_eq
  intro i
  rw [rev_testBit, rev_testBit, Nat.testBit_mod_two_pow]
  by_cases hi : i < n
  · simp [hi, show n - 1 - i < n by omega]
  · simp [hi]

@[simp] theorem bitsAt_zero (src : List Byte) (pos : Nat) : bitsAt src pos 0 = 0 := rfl

theorem bitsAt_succ (src : List Byte) (pos n : Nat) :
    bitsAt src pos (n + 1) = (bitAt src pos).toNat + 2 * bitsAt src (pos + 1) n := rfl

/-- Bit `i` of what a read returns is stream bit `pos + i` (R146). -/
theorem bitsAt_testBit (src : List Byte) (pos n i : Nat) :
    (bitsAt src pos n).testBit i = (decide (i < n) && bitAt src (pos + i)) := by
  induction n generalizing pos i with
  | zero => simp
  | succ n ih =>
    rw [bitsAt_succ]
    cases i with
    | zero => cases bitAt src pos <;> simp [Nat.testBit_zero, Nat.add_mod]
    | succ i =>
      rw [Nat.testBit_succ, show ((bitAt src pos).toNat + 2 * bitsAt src (pos + 1) n) / 2 = bitsAt src (pos + 1) n by
        cases bitAt src pos <;> simp [Nat.add_mul_div_left], ih, Nat.add_assoc, Nat.add_comm 1 i]
      simp

theorem bitsAt_lt (src : List Byte) (pos n : Nat) : bitsAt src pos n < 2 ^ n := by
  apply Nat.lt_pow_two_of_testBit
  intro i hi
  rw [bitsAt_testBit, decide_eq_false (by omega), Bool.false_and]

/-- A read of `a + b` bits is a read of `a` bits below one of `b` bits (R151). -/
theorem bitsAt_add (src : List Byte) (pos a b : Nat) :
    bitsAt src pos (a + b) = bitsAt src pos a + 2 ^ a * bitsAt src (pos + a) b := by
  induction a generalizing pos with
  | zero => simp
  | succ a ih =>
    rw [show a + 1 + b = a + b + 1 by omega, bitsAt_succ, ih, bitsAt_succ, Nat.pow_succ,
      show pos + 1 + a = pos + (a + 1) by omega]
    ring

/-- The low bits of a read. -/
theorem bitsAt_mod (src : List Byte) (pos a b : Nat) : bitsAt src pos (a + b) % 2 ^ a = bitsAt src pos a := by
  rw [bitsAt_add, Nat.add_mul_mod_self_left, Nat.mod_eq_of_lt (bitsAt_lt _ _ _)]

/-- Bits past the end of the sequence are zero. -/
theorem bitAt_past_end (src : List Byte) (k : Nat) (h : 8 * src.length ≤ k) : bitAt src k = false := by
  unfold bitAt
  rw [List.getD_eq_default _ _ (by omega)]
  simp

@[simp] theorem length_leBytes (k x : Nat) : (leBytes k x).length = k := by
  induction k generalizing x with
  | zero => rfl
  | succ k ih => simp [leBytes, ih]

theorem leNat_lt (bs : List Byte) : leNat bs < 2 ^ (8 * bs.length) := by
  induction bs with
  | nil => simp [leNat]
  | cons b bs ih =>
    have := b.isLt
    rw [leNat, List.length_cons, Nat.mul_succ, Nat.pow_add]
    omega

/-- Reading back a little-endian field (R65). -/
theorem leNat_leBytes (k x : Nat) : leNat (leBytes k x) = x % 2 ^ (8 * k) := by
  induction k generalizing x with
  | zero => simp [leBytes, leNat, Nat.mod_one]
  | succ k ih =>
    rw [leBytes, leNat, ih, Nat.mul_succ, Nat.add_comm (8 * k) 8, Nat.pow_add, Nat.mod_mul]
    simp

theorem leBytes_leNat (bs : List Byte) : leBytes bs.length (leNat bs) = bs := by
  induction bs with
  | nil => rfl
  | cons b bs ih =>
    rw [leNat, List.length_cons, leBytes]
    congr 1
    · apply BitVec.eq_of_toNat_eq
      have := b.isLt
      simp
      omega
    · have := b.isLt
      rw [show (b.toNat + 256 * leNat bs) / 256 = leNat bs by omega, ih]

end Sys2Proof.Machine
end

