-- ==== Sys2Proof/Laws/Results.lean ====
section
/-! SUPPORT. What a sequence of unit operations can do, said once: the inversion lemmas of `Res.bind`, and of the ways a
result of a unit ends a step. -/

namespace Sys2Proof.Machine

variable {σ α β : Type}

@[simp] theorem Res.bind_ok (a : α) (s : σ) (f : α → σ → Res σ β) : (Res.ok a s).bind f = f a s := rfl

@[simp] theorem Res.bind_raise (e : ErrKind) (s : σ) (f : α → σ → Res σ β) :
    (Res.raise e s : Res σ α).bind f = .raise e s := rfl

/-- A sequence returns exactly when both parts do. -/
theorem Res.bind_eq_ok {r : Res σ α} {f : α → σ → Res σ β} {b : β} {t : σ} :
    r.bind f = .ok b t ↔ ∃ a s, r = .ok a s ∧ f a s = .ok b t := by
  cases r with
  | ok a s => simp
  | raise e s => simp

/-- A sequence raises exactly when its first part does, or its second part after the first returned (R12). -/
theorem Res.bind_eq_raise {r : Res σ α} {f : α → σ → Res σ β} {e : ErrKind} {t : σ} :
    r.bind f = .raise e t ↔ r = .raise e t ∨ ∃ a s, r = .ok a s ∧ f a s = .raise e t := by
  cases r with
  | ok a s => simp
  | raise e' s => simp

theorem Res.bind_assoc {γ : Type} (r : Res σ α) (f : α → σ → Res σ β) (g : β → σ → Res σ γ) :
    (r.bind f).bind g = r.bind fun a s => (f a s).bind g := by
  cases r <;> rfl

/-- A reader operation ends a step in one of two ways. -/
theorem runReader_cases (r : Res BR α) (s : State) (k : α → State → StepResult) :
    (∃ a br, r = .ok a br ∧ runReader r s k = k a { s with br := br }) ∨
      ∃ e br, r = .raise e br ∧ runReader r s k = .next (raiseError e { s with br := br }) := by
  cases r with
  | ok a br => exact .inl ⟨a, br, rfl, rfl⟩
  | raise e br => exact .inr ⟨e, br, rfl, rfl⟩

/-- A decoder operation ends a step in one of two ways. -/
theorem runInflater_cases (r : Res Inflater α) (s : State) (k : α → State → StepResult) :
    (∃ a d, r = .ok a d ∧ runInflater r s k = k a (s.withInflater d)) ∨
      ∃ e d, r = .raise e d ∧ runInflater r s k = .next (raiseError e (s.withInflater d)) := by
  cases r with
  | ok a d => exact .inl ⟨a, d, rfl, rfl⟩
  | raise e d => exact .inr ⟨e, d, rfl, rfl⟩

/-- A framer operation ends a step in one of two ways. -/
theorem runFramer_cases (r : Res GZ α) (s : State) (k : α → State → StepResult) :
    (∃ a gz, r = .ok a gz ∧ runFramer r s k = k a { s with gz := gz }) ∨
      ∃ e gz, r = .raise e gz ∧ runFramer r s k = .next (raiseError e { s with gz := gz }) := by
  cases r with
  | ok a gz => exact .inl ⟨a, gz, rfl, rfl⟩
  | raise e gz => exact .inr ⟨e, gz, rfl, rfl⟩

@[simp] theorem runReader_ok (a : α) (br : BR) (s : State) (k : α → State → StepResult) :
    runReader (.ok a br) s k = k a { s with br := br } := rfl

@[simp] theorem runReader_raise (e : ErrKind) (br : BR) (s : State) (k : α → State → StepResult) :
    runReader (.raise e br) s k = .next (raiseError e { s with br := br }) := rfl

@[simp] theorem runInflater_ok (a : α) (d : Inflater) (s : State) (k : α → State → StepResult) :
    runInflater (.ok a d) s k = k a (s.withInflater d) := rfl

@[simp] theorem runInflater_raise (e : ErrKind) (d : Inflater) (s : State) (k : α → State → StepResult) :
    runInflater (.raise e d) s k = .next (raiseError e (s.withInflater d)) := rfl

@[simp] theorem runFramer_ok (a : α) (gz : GZ) (s : State) (k : α → State → StepResult) :
    runFramer (.ok a gz) s k = k a { s with gz := gz } := rfl

@[simp] theorem runFramer_raise (e : ErrKind) (gz : GZ) (s : State) (k : α → State → StepResult) :
    runFramer (.raise e gz) s k = .next (raiseError e { s with gz := gz }) := rfl

/-- A reader operation inside the decoder changes the reader alone. -/
theorem onReader_eq_ok {f : BR → Res BR α} {d d' : Inflater} {a : α} :
    onReader f d = .ok a d' ↔ ∃ br, f d.br = .ok a br ∧ d' = { d with br := br } := by
  unfold onReader
  cases f d.br with
  | ok b br => simp [eq_comm]
  | raise e br => simp

theorem onReader_eq_raise {f : BR → Res BR α} {d d' : Inflater} {e : ErrKind} :
    onReader f d = .raise e d' ↔ ∃ br, f d.br = .raise e br ∧ d' = { d with br := br } := by
  unfold onReader
  cases f d.br with
  | ok b br => simp
  | raise e' br => simp [eq_comm]

@[simp] theorem State.withInflater_inflater (s : State) : s.withInflater s.inflater = s := rfl

@[simp] theorem State.inflater_withInflater (s : State) (d : Inflater) : (s.withInflater d).inflater = d := rfl

end Sys2Proof.Machine
end

