-- ==== Sys2Proof/Laws/Reader.lean ====
section
/-! SUPPORT. The laws of the bit reader (spec/40_bitstream.md R145 to R151): what each operation can do, and that each keeps
the invariant of R29 and R30. -/

namespace Sys2Proof.Machine

@[simp] theorem BR.src_fill (br : BR) (n : Nat) : (br.fill n).src = br.src := rfl
@[simp] theorem BR.bitpos_fill (br : BR) (n : Nat) : (br.fill n).bitpos = br.bitpos := rfl
@[simp] theorem BR.src_advance (br : BR) (n : Nat) : (br.advance n).src = br.src := rfl
@[simp] theorem BR.bitpos_advance (br : BR) (n : Nat) : (br.advance n).bitpos = br.bitpos + n := rfl
@[simp] theorem BR.src_align (br : BR) : br.align.src = br.src := rfl
@[simp] theorem BR.avail_fill (br : BR) (n : Nat) : (br.fill n).avail = br.avail := rfl
@[simp] theorem BR.peekValue_fill (br : BR) (m n : Nat) : (br.fill m).peekValue n = br.peekValue n := rfl

theorem BR.init_ok (src : List Byte) : (BR.init src).Ok := by simp [BR.Ok, BR.init]

/-- Filling loads enough bits for a read that the source can satisfy. -/
theorem BR.le_held_fill {br : BR} (h : br.Ok) {n : Nat} (hn : n ≤ br.avail) : n ≤ (br.fill n).held := by
  obtain ⟨h1, h2, -⟩ := h
  simp only [BR.avail] at hn
  simp only [BR.fill, BR.cursor]
  rcases Nat.le_total ((n - br.held + 7) / 8) (br.src.length - (br.bitpos + br.held) / 8) with hm | hm
  · rw [Nat.min_eq_left hm]; omega
  · rw [Nat.min_eq_right hm]; omega

theorem BR.fill_ok {br : BR} (h : br.Ok) {n : Nat} (hn : n ≤ 16) : (br.fill n).Ok := by
  obtain ⟨h1, h2, h3⟩ := h
  simp only [BR.Ok, BR.fill, BR.cursor]
  rcases Nat.le_total ((n - br.held + 7) / 8) (br.src.length - (br.bitpos + br.held) / 8) with hm | hm
  · rw [Nat.min_eq_left hm]; omega
  · rw [Nat.min_eq_right hm]; omega

theorem BR.advance_ok {br : BR} (h : br.Ok) {n : Nat} (hn : n ≤ br.held) : (br.advance n).Ok := by
  obtain ⟨h1, h2, h3⟩ := h
  simp only [BR.Ok, BR.advance]
  omega

theorem BR.align_ok {br : BR} (h : br.Ok) : br.align.Ok := by
  obtain ⟨h1, h2, h3⟩ := h
  simp only [BR.Ok, BR.align]
  omega

/-- Look-ahead only grows within a fill: R30's accumulator still holds the next unread bits. -/
theorem BR.fill_advance_ok {br : BR} (h : br.Ok) {m n : Nat} (hm : m ≤ 16) (hn : n ≤ m) (ha : n ≤ br.avail) :
    ((br.fill m).advance n).Ok := by
  apply BR.advance_ok (BR.fill_ok h hm)
  obtain ⟨h1, h2, h3⟩ := h
  simp only [BR.avail] at ha
  simp only [BR.fill, BR.cursor]
  rcases Nat.le_total ((m - br.held + 7) / 8) (br.src.length - (br.bitpos + br.held) / 8) with hl | hl
  · rw [Nat.min_eq_left hl]; omega
  · rw [Nat.min_eq_right hl]; omega

/-- What `READBITS(n)` can do (R146): return the next bits `n` further on, or raise `E_TRUNCATED`, the cursor unmoved. -/
theorem BR.readBits_cases (br : BR) (n : Nat) :
    (n ≤ br.avail ∧ br.readBits n = .ok (br.peekValue n) ((br.fill n).advance n)) ∨
      (br.avail < n ∧ br.readBits n = .raise .truncated br) := by
  unfold BR.readBits BR.peekValue
  split
  · exact .inr ⟨‹_›, rfl⟩
  · exact .inl ⟨by omega, rfl⟩

/-- What `SKIPBITS(n)` can do (R149). -/
theorem BR.skipBits_cases (br : BR) (n : Nat) :
    (n ≤ br.avail ∧ br.skipBits n = .ok () ((br.fill n).advance n)) ∨
      (br.avail < n ∧ br.skipBits n = .raise .truncated br) := by
  unfold BR.skipBits
  split
  · exact .inr ⟨‹_›, rfl⟩
  · exact .inl ⟨by omega, rfl⟩

/-- What taking a decoded code can do (R177, R178). -/
theorem takeCode_cases (len : Nat) (br : BR) :
    (len ≤ br.avail ∧ takeCode len br = .ok () ((br.fill 9).advance len)) ∨
      (br.avail < len ∧ takeCode len br = .raise .truncated (br.fill 9)) := by
  unfold takeCode
  split
  · exact .inr ⟨‹_›, rfl⟩
  · exact .inl ⟨by omega, rfl⟩

theorem BR.readBits_ok {br br' : BR} {n v : Nat} (h : br.Ok) (hn : n ≤ 16) (hr : br.readBits n = .ok v br') :
    br'.Ok ∧ br'.src = br.src ∧ br'.bitpos = br.bitpos + n ∧ v = br.peekValue n := by
  rcases br.readBits_cases n with ⟨ha, he⟩ | ⟨-, he⟩
  · rw [he] at hr
    cases hr
    exact ⟨BR.fill_advance_ok h hn (Nat.le_refl n) ha, rfl, rfl, rfl⟩
  · rw [he] at hr; cases hr

theorem BR.skipBits_ok {br br' : BR} {n : Nat} (h : br.Ok) (hn : n ≤ 16) (hr : br.skipBits n = .ok () br') :
    br'.Ok ∧ br'.src = br.src ∧ br'.bitpos = br.bitpos + n := by
  rcases br.skipBits_cases n with ⟨ha, he⟩ | ⟨-, he⟩
  · rw [he] at hr
    cases hr
    exact ⟨BR.fill_advance_ok h hn (Nat.le_refl n) ha, rfl, rfl⟩
  · rw [he] at hr; cases hr

theorem takeCode_ok {br br' : BR} {len : Nat} (h : br.Ok) (hl : len ≤ 9) (hr : takeCode len br = .ok () br') :
    br'.Ok ∧ br'.src = br.src ∧ br'.bitpos = br.bitpos + len := by
  rcases takeCode_cases len br with ⟨ha, he⟩ | ⟨-, he⟩
  · rw [he] at hr
    cases hr
    exact ⟨BR.fill_advance_ok h (by omega) hl ha, rfl, rfl⟩
  · rw [he] at hr; cases hr

/-- Bits past the end of the source are zero in a peek (R148). -/
theorem BR.peekValue_past_end (br : BR) (n i : Nat) (h : br.avail ≤ i) : (br.peekValue n).testBit i = false := by
  simp only [BR.avail] at h
  rw [BR.peekValue, bitsAt_testBit, bitAt_past_end _ _ (by omega), Bool.and_false]

/-- A shorter peek is the low bits of a longer one (R177, R178: the table index and the code it begins with). -/
theorem BR.peekValue_mod (br : BR) (a b : Nat) : br.peekValue (a + b) % 2 ^ a = br.peekValue a := bitsAt_mod _ _ _ _

end Sys2Proof.Machine
end

