-- ==== Sys2Proof/Laws/Writer.lean ====
section
/-! SUPPORT. The laws of the bit writer (spec/40_bitstream.md R140 to R144): what each operation adds to the bits written,
and that each keeps R27's invariant. -/

namespace Sys2Proof.Machine

@[simp] theorem length_byteBits (b : Byte) : (byteBits b).length = 8 := by simp [byteBits]

@[simp] theorem length_lowBits (v n : Nat) : (lowBits v n).length = n := by simp [lowBits]

theorem lowBits_succ (v n : Nat) : lowBits v (n + 1) = v.testBit 0 :: lowBits (v / 2) n := by
  simp only [lowBits, List.range_succ_eq_map, List.map_cons, List.map_map]
  congr 1
  apply List.map_congr_left
  intro i _
  simp [Nat.testBit_succ]

theorem BW.empty_ok : BW.empty.Ok := by simp [BW.Ok, BW.empty]

@[simp] theorem BW.bits_empty : BW.empty.bits = [] := rfl

theorem BW.acc_bit_of_le {bw : BW} (h : bw.Ok) {i : Nat} (hi : bw.cnt ≤ i) : bw.acc.getLsbD i = false := by
  rw [← BitVec.testBit_toNat]
  exact Nat.testBit_lt_two_pow (Nat.lt_of_lt_of_le h.2 (Nat.pow_le_pow_right (by omega) hi))

/-- The accumulator after one more bit. -/
theorem BW.putBit_acc_bit {bw : BW} (h : bw.Ok) (b : Bool) (i : Nat) :
    (bw.acc ||| ((BitVec.ofBool b).setWidth 8 <<< bw.cnt)).getLsbD i =
      if i = bw.cnt then b else bw.acc.getLsbD i := by
  have hc := h.1
  rw [BitVec.getLsbD_or, BitVec.getLsbD_shiftLeft]
  by_cases hi : i = bw.cnt
  · subst hi
    rw [BW.acc_bit_of_le h (Nat.le_refl _)]
    cases b <;> simp [hc]
  · by_cases hlt : i < bw.cnt
    · simp [hi, hlt]
    · have : i - bw.cnt ≠ 0 := by omega
      cases b <;> simp [hi, this]

theorem BW.putBit_ok {bw : BW} (h : bw.Ok) (b : Bool) : (bw.putBit b).Ok := by
  have hc := h.1
  unfold BW.putBit
  simp only
  split
  · exact ⟨by simp, by simp⟩
  · refine ⟨by simp only; omega, ?_⟩
    apply Nat.lt_pow_two_of_testBit
    intro i hi
    rw [BitVec.testBit_toNat, BW.putBit_acc_bit h, if_neg (by simp only at hi; omega)]
    exact BW.acc_bit_of_le h (by simp only at hi; omega)

/-- R141's loop body appends one bit. -/
theorem BW.bits_putBit {bw : BW} (h : bw.Ok) (b : Bool) : (bw.putBit b).bits = bw.bits ++ [b] := by
  have hc := h.1
  have hmap : (List.range (bw.cnt + 1)).map (bw.acc ||| ((BitVec.ofBool b).setWidth 8 <<< bw.cnt)).getLsbD =
      (List.range bw.cnt).map bw.acc.getLsbD ++ [b] := by
    rw [List.range_succ, List.map_append]
    congr 1
    · apply List.map_congr_left
      intro i hi
      rw [BW.putBit_acc_bit h, if_neg (by have := List.mem_range.mp hi; omega)]
    · simp only [List.map_cons, List.map_nil]
      rw [BW.putBit_acc_bit h, if_pos rfl]
  unfold BW.putBit BW.bits
  simp only
  split
  · rename_i h8
    rw [List.flatMap_append, List.append_assoc, List.append_assoc, ← hmap, h8]
    simp [byteBits]
  · rw [hmap, List.append_assoc]

theorem BW.writeBits_ok {bw : BW} (h : bw.Ok) (v n : Nat) : (bw.writeBits v n).Ok := by
  induction n generalizing bw v with
  | zero => exact h
  | succ n ih => exact ih (BW.putBit_ok h _) _

/-- `WRITEBITS(v, n)` appends the low `n` bits of `v`, least significant first (R141, R144). -/
theorem BW.bits_writeBits {bw : BW} (h : bw.Ok) (v n : Nat) : (bw.writeBits v n).bits = bw.bits ++ lowBits v n := by
  induction n generalizing bw v with
  | zero => simp [BW.writeBits, lowBits]
  | succ n ih =>
    rw [BW.writeBits, ih (BW.putBit_ok h _), BW.bits_putBit h, lowBits_succ, List.append_assoc]
    congr 2
    rw [Nat.testBit_zero]
    rfl

theorem BW.acc_of_cnt_zero {bw : BW} (h : bw.Ok) (hc : bw.cnt = 0) : bw.acc = 0 := by
  have := h.2
  rw [hc] at this
  apply BitVec.eq_of_toNat_eq
  simp at this
  simp [this]

theorem BW.appendByte_ok {bw : BW} (h : bw.Ok) (b : Byte) : (bw.appendByte b).Ok := h

theorem BW.appendBytes_ok {bw : BW} (h : bw.Ok) (bs : List Byte) : (bw.appendBytes bs).Ok := by
  induction bs generalizing bw with
  | nil => exact h
  | cons b bs ih => exact ih (BW.appendByte_ok h b)

@[simp] theorem BW.cnt_appendBytes (bw : BW) (bs : List Byte) : (bw.appendBytes bs).cnt = bw.cnt := by
  induction bs generalizing bw with
  | nil => rfl
  | cons b bs ih => exact ih (bw.appendByte b)

@[simp] theorem BW.acc_appendBytes (bw : BW) (bs : List Byte) : (bw.appendBytes bs).acc = bw.acc := by
  induction bs generalizing bw with
  | nil => rfl
  | cons b bs ih => exact ih (bw.appendByte b)

/-- `APPENDBYTE` of each byte in order (R262, R264). -/
@[simp] theorem BW.buf_appendBytes (bw : BW) (bs : List Byte) : (bw.appendBytes bs).buf = bw.buf ++ bs := by
  induction bs generalizing bw with
  | nil => simp [BW.appendBytes]
  | cons b bs ih => exact (ih (bw.appendByte b)).trans (by simp [BW.appendByte])

theorem BW.align_ok {bw : BW} (h : bw.Ok) : bw.align.Ok := by
  unfold BW.align
  split
  · exact ⟨by simp, by simp⟩
  · exact h

@[simp] theorem BW.cnt_align (bw : BW) : bw.align.cnt = 0 := by
  unfold BW.align
  split
  · rfl
  · omega

/-- `ALIGN` pads with zero bits to the byte boundary (R143). -/
theorem BW.bits_align {bw : BW} (h : bw.Ok) :
    bw.align.bits = bw.bits ++ List.replicate ((8 - bw.cnt) % 8) false := by
  have hc := h.1
  unfold BW.align
  split
  · rename_i h0
    simp only [BW.bits, List.flatMap_append, List.flatMap_cons, List.flatMap_nil, List.append_nil, List.range_zero,
      List.map_nil, List.append_assoc]
    congr 1
    apply List.ext_getElem
    · simp; omega
    · intro i h1 h2
      simp only [byteBits, List.getElem_map, List.getElem_range]
      by_cases hi : i < bw.cnt
      · rw [List.getElem_append_left (by simpa using hi)]
        simp
      · rw [List.getElem_append_right (by simpa using Nat.le_of_not_lt hi), List.getElem_replicate]
        exact BW.acc_bit_of_le h (Nat.le_of_not_lt hi)
  · have h0 : bw.cnt = 0 := by omega
    simp [h0]

/-- How many bits are written. -/
theorem BW.length_bits (bw : BW) : bw.bits.length = 8 * bw.buf.length + bw.cnt := by
  simp [BW.bits, List.length_flatMap]
  omega

end Sys2Proof.Machine
end

