-- ==== Sys2Proof/Laws/Huffman.lean ====
section
/-! SUPPORT. The fixed code and its decode table agree (spec/42_huffman.md R172, R175), and what the decoder's operations can
do (R177 to R179). -/

namespace Sys2Proof.Machine

/-- Every slot holds a symbol of the alphabet and the length of its code (R175). -/
theorem litlenDec9_slot : ∀ w < 512, (litlenDec9 w).1 < 288 ∧ (litlenDec9 w).2 = (litlenCode (litlenDec9 w).1).2 ∧
    w % 2 ^ (litlenDec9 w).2 = rev (litlenCode (litlenDec9 w).1).1 (litlenDec9 w).2 := by decide +kernel

/-- Every slot that begins with a symbol's reversed code holds that symbol (R175). -/
theorem litlenDec9_of_code : ∀ s < 288, ∀ hi < 4,
    rev (litlenCode s).1 (litlenCode s).2 + hi * 2 ^ (litlenCode s).2 < 512 →
      litlenDec9 (rev (litlenCode s).1 (litlenCode s).2 + hi * 2 ^ (litlenCode s).2) = (s, (litlenCode s).2) := by
  decide +kernel

/-- Code lengths and codes (R33). -/
theorem litlenCode_bounds : ∀ s < 288, 7 ≤ (litlenCode s).2 ∧ (litlenCode s).2 ≤ 9 ∧
    (litlenCode s).1 < 2 ^ (litlenCode s).2 := by decide +kernel

theorem peekValue_lt (br : BR) (n : Nat) : br.peekValue n < 2 ^ n := bitsAt_lt _ _ _

/-- The slot of a peeked index. -/
theorem litlenDec9_peek (br : BR) : (litlenDec9 (br.peekValue 9)).1 < 288 ∧
    (litlenDec9 (br.peekValue 9)).2 = (litlenCode (litlenDec9 (br.peekValue 9)).1).2 ∧
    7 ≤ (litlenDec9 (br.peekValue 9)).2 ∧ (litlenDec9 (br.peekValue 9)).2 ≤ 9 := by
  obtain ⟨h1, h2, -⟩ := litlenDec9_slot _ (peekValue_lt br 9)
  obtain ⟨h3, h4, -⟩ := litlenCode_bounds _ h1
  exact ⟨h1, h2, h2 ▸ h3, h2 ▸ h4⟩

/-- What `HD.LITLEN` can do (R177, R178). -/
theorem hdLitlen_cases (br : BR) :
    ((litlenDec9 (br.peekValue 9)).2 ≤ br.avail ∧
        hdLitlen br = .ok (litlenDec9 (br.peekValue 9)).1 ((br.fill 9).advance (litlenDec9 (br.peekValue 9)).2)) ∨
      (br.avail < (litlenDec9 (br.peekValue 9)).2 ∧ hdLitlen br = .raise .truncated (br.fill 9)) := by
  unfold hdLitlen
  rcases takeCode_cases (litlenDec9 (br.peekValue 9)).2 br with ⟨ha, he⟩ | ⟨ha, he⟩
  · exact .inl ⟨ha, by simp [he]⟩
  · exact .inr ⟨ha, by simp [he]⟩

/-- What `HD.DIST` can do (R179). -/
theorem hdDist_cases (br : BR) :
    (5 ≤ br.avail ∧ hdDist br = .ok (rev (br.peekValue 5) 5) ((br.fill 5).advance 5)) ∨
      (br.avail < 5 ∧ hdDist br = .raise .truncated br) := by
  unfold hdDist
  rcases br.readBits_cases 5 with ⟨ha, he⟩ | ⟨ha, he⟩
  · exact .inl ⟨ha, by simp [he]⟩
  · exact .inr ⟨ha, by simp [he]⟩

/-- A code as the writer puts it: its most significant bit first (R63, R173). -/
theorem lowBits_rev (code len : Nat) : lowBits (rev code len) len = codeBits code len := by
  apply List.ext_getElem
  · simp [codeBits]
  · intro i h1 h2
    have hi : i < len := by simpa using h1
    simp only [lowBits, codeBits, List.getElem_map, List.getElem_range, List.getElem_reverse, List.length_map,
      List.length_range]
    rw [rev_testBit]
    simp [hi]

/-- `HE.LITLEN(s)` appends the code of `s` (R173). -/
theorem bits_heLitlen {bw : BW} (h : bw.Ok) (sym : Nat) :
    (heLitlen sym bw).bits = bw.bits ++ codeBits (litlenCode sym).1 (litlenCode sym).2 := by
  rw [heLitlen, BW.bits_writeBits h, lowBits_rev]

/-- `HE.DIST(d)` appends the code of `d` (R174). -/
theorem bits_heDist {bw : BW} (h : bw.Ok) (d : Nat) : (heDist d bw).bits = bw.bits ++ codeBits d 5 := by
  rw [heDist, BW.bits_writeBits h, lowBits_rev]

theorem heLitlen_ok {bw : BW} (h : bw.Ok) (sym : Nat) : (heLitlen sym bw).Ok := BW.writeBits_ok h _ _

theorem heDist_ok {bw : BW} (h : bw.Ok) (d : Nat) : (heDist d bw).Ok := BW.writeBits_ok h _ _

end Sys2Proof.Machine
end

