-- ==== Sys2Proof/Laws/Decoder.lean ====
section
/-! SUPPORT. What the decoder's operations keep (spec/45_deflate_fixed_decoder.md): whatever they answer, the reader's
invariant holds and the reader still reads the same payload, and the output only grows (R26). -/

namespace Sys2Proof.Machine

/-- What every decoder operation keeps: the reader's invariant, its source, and the output so far. -/
structure Inflater.Later (d d' : Inflater) : Prop where
  ok : d'.br.Ok
  src : d'.br.src = d.br.src
  out : d.out <+: d'.out

/-- The state a result leaves, whether it returned or raised. -/
def Res.state {σ α : Type} (r : Res σ α) : σ :=
  match r with
  | .ok _ s => s
  | .raise _ s => s

theorem Inflater.Later.refl {d : Inflater} (h : d.br.Ok) : d.Later d := ⟨h, rfl, List.prefix_refl _⟩

theorem Inflater.Later.trans {d d' d'' : Inflater} (h : d.Later d') (h' : d'.Later d'') : d.Later d'' :=
  ⟨h'.ok, h'.src.trans h.src, h.out.trans h'.out⟩

/-- A sequence keeps what both parts keep. -/
theorem Inflater.Later.bind {α β : Type} {d : Inflater} {r : Res Inflater α} {f : α → Inflater → Res Inflater β}
    (h : d.Later r.state) (hf : ∀ a d', d.Later d' → d'.Later (f a d').state) : d.Later (r.bind f).state := by
  cases r with
  | ok a d' => exact h.trans (hf a d' h)
  | raise e d' => exact h

theorem later_readBits {d : Inflater} (h : d.br.Ok) {n : Nat} (hn : n ≤ 16) :
    d.Later (onReader (·.readBits n) d).state := by
  unfold onReader
  rcases d.br.readBits_cases n with ⟨ha, he⟩ | ⟨-, he⟩ <;> simp only [he]
  · exact ⟨BR.fill_advance_ok h hn (Nat.le_refl n) ha, rfl, List.prefix_refl _⟩
  · exact ⟨h, rfl, List.prefix_refl _⟩

theorem later_takeBits {d : Inflater} (h : d.br.Ok) {n : Nat} (hn : n ≤ 16) : d.Later (takeBits n d).state := by
  unfold takeBits onReader
  rcases d.br.skipBits_cases n with ⟨ha, he⟩ | ⟨-, he⟩ <;> simp only [he]
  · exact ⟨BR.fill_advance_ok h hn (Nat.le_refl n) ha, rfl, List.prefix_refl _⟩
  · exact ⟨h, rfl, List.prefix_refl _⟩

theorem later_takeCode {d : Inflater} (h : d.br.Ok) {len : Nat} (hl : len ≤ 9) :
    d.Later (onReader (takeCode len) d).state := by
  unfold onReader
  rcases takeCode_cases len d.br with ⟨ha, he⟩ | ⟨-, he⟩ <;> simp only [he]
  · exact ⟨BR.fill_advance_ok h (by omega) hl ha, rfl, List.prefix_refl _⟩
  · exact ⟨BR.fill_ok h (by omega), rfl, List.prefix_refl _⟩

theorem later_takeSymbol {d : Inflater} (h : d.br.Ok) {sym : Nat} (hs : sym < 288) : d.Later (takeSymbol sym d).state :=
  later_takeCode h (litlenCode_bounds sym hs).2.1

theorem later_hdLitlen {d : Inflater} (h : d.br.Ok) : d.Later (onReader hdLitlen d).state := by
  unfold onReader
  rcases hdLitlen_cases d.br with ⟨ha, he⟩ | ⟨-, he⟩ <;> simp only [he]
  · exact ⟨BR.fill_advance_ok h (by omega) (litlenDec9_peek d.br).2.2.2 ha, rfl, List.prefix_refl _⟩
  · exact ⟨BR.fill_ok h (by omega), rfl, List.prefix_refl _⟩

theorem later_hdDist {d : Inflater} (h : d.br.Ok) : d.Later (onReader hdDist d).state := by
  unfold onReader
  rcases hdDist_cases d.br with ⟨ha, he⟩ | ⟨-, he⟩ <;> simp only [he]
  · exact ⟨BR.fill_advance_ok h (by omega) (Nat.le_refl 5) ha, rfl, List.prefix_refl _⟩
  · exact ⟨h, rfl, List.prefix_refl _⟩

theorem later_append {d : Inflater} (h : d.br.Ok) (b : Byte) : d.Later (d.append b) := ⟨h, rfl, List.prefix_append _ _⟩

theorem lenExtra_le (i : Nat) : lenExtra i ≤ 5 := by
  unfold lenExtra
  rcases Nat.lt_or_ge i 29 with h | h
  · interval_cases i <;> decide
  · rw [List.getD_eq_default _ _ h]; omega

theorem distExtra_le (j : Nat) : distExtra j ≤ 13 := by
  unfold distExtra
  rcases Nat.lt_or_ge j 30 with h | h
  · interval_cases j <;> decide
  · rw [List.getD_eq_default _ _ h]; omega

@[simp] theorem length_copyMatch (out : List Byte) (dist len : Nat) : (copyMatch out dist len).length = out.length + len := by
  induction len generalizing out with
  | zero => rfl
  | succ len ih => rw [copyMatch, ih]; simp; omega

/-- A copy only appends (R26, R244). -/
theorem prefix_copyMatch (out : List Byte) (dist len : Nat) : out <+: copyMatch out dist len := by
  induction len generalizing out with
  | zero => exact List.prefix_refl _
  | succ len ih => exact (List.prefix_append _ _).trans (ih _)

theorem later_resolveMatch {d : Inflater} (h : d.br.Ok) (len dist : Nat) : d.Later (resolveMatch len dist d).state := by
  unfold resolveMatch
  split
  · exact .refl h
  · exact ⟨h, rfl, prefix_copyMatch _ _ _⟩

theorem later_readBlockHeader {d : Inflater} (h : d.br.Ok) : d.Later (readBlockHeader d).state := by
  unfold readBlockHeader
  refine (later_readBits h (by omega)).bind fun f d' h' => ?_
  have h1 : d'.Later { d' with bfinal := BitVec.ofNat 1 f } := ⟨h'.ok, rfl, List.prefix_refl _⟩
  have h2 := h1.trans (later_readBits h1.ok (n := 2) (by omega))
  exact h2.bind fun t d'' h'' => ⟨h''.ok, rfl, List.prefix_refl _⟩

theorem later_storedCopy {d : Inflater} (h : d.br.Ok) (k : Nat) : d.Later (storedCopy d k).state := by
  induction k generalizing d with
  | zero => exact .refl h
  | succ k ih =>
    unfold storedCopy
    exact (later_readBits h (by omega)).bind fun b d' h' => (later_append h'.ok _).trans (ih h'.ok)

theorem later_alignReader {d : Inflater} (h : d.br.Ok) : d.Later { d with br := d.br.align } :=
  ⟨BR.align_ok h, rfl, List.prefix_refl _⟩

theorem later_readStored {d : Inflater} (h : d.br.Ok) : d.Later (readStored d).state := by
  unfold readStored
  have ha := later_alignReader h
  refine (ha.trans (later_readBits ha.ok (by omega))).bind fun len d' h' => ?_
  refine (later_readBits h'.ok (by omega)).bind fun nlen d'' h'' => ?_
  split
  · exact later_storedCopy h''.ok _
  · exact .refl h''.ok

theorem later_readMatch {d : Inflater} (h : d.br.Ok) (i : Nat) : d.Later (readMatch i d).state := by
  unfold readMatch
  refine (later_readBits h (by have := lenExtra_le i; omega)).bind fun e d' h' => ?_
  refine (later_hdDist h'.ok).bind fun j d'' h'' => ?_
  split
  · exact .refl h''.ok
  · exact (later_readBits h''.ok (by have := distExtra_le j; omega)).bind fun x d3 h3 => later_resolveMatch h3.ok _ _

theorem later_readFixedItem {d : Inflater} (h : d.br.Ok) : d.Later (readFixedItem d).state := by
  unfold readFixedItem
  refine (later_hdLitlen h).bind fun sym d' h' => ?_
  split
  · exact later_append h'.ok _
  · split
    · exact .refl h'.ok
    · split
      · exact .refl h'.ok
      · exact (later_readMatch h'.ok _).bind fun _ d'' h'' => .refl h''.ok

theorem later_readFixedLoop {d : Inflater} (h : d.br.Ok) (fuel : Nat) : d.Later (readFixedLoop d fuel).state := by
  induction fuel generalizing d with
  | zero => exact .refl h
  | succ fuel ih =>
    unfold readFixedLoop
    refine (later_readFixedItem h).bind fun done d' h' => ?_
    split
    · exact .refl h'.ok
    · exact ih h'.ok

theorem later_readBlockBody {d : Inflater} (h : d.br.Ok) : d.Later (readBlockBody d).state := by
  unfold readBlockBody readFixed
  split
  · exact later_readStored h
  · split
    · exact later_readFixedLoop h _
    · exact .refl h

/-- `DEC.INFLATE` keeps the reader's invariant and its payload, and only appends to `OUT`. -/
theorem later_inflateLoop {d : Inflater} (h : d.br.Ok) (fuel : Nat) : d.Later (inflateLoop d fuel).state := by
  induction fuel generalizing d with
  | zero => exact .refl h
  | succ fuel ih =>
    unfold inflateLoop
    refine (later_readBlockHeader h).bind fun _ d' h' => ?_
    refine (later_readBlockBody h'.ok).bind fun _ d'' h'' => ?_
    split
    · exact .refl h''.ok
    · exact ih h''.ok

end Sys2Proof.Machine
end

