-- ==== Sys2Proof/Laws/Memory.lean ====
section
/-! SUPPORT. The laws of the sparse tables and of the memory `IN`: read after write, and that every operation keeps the
canonical form. -/

namespace Sys2Proof.Machine

variable {α : Type}

theorem Cells.get_of_wfFrom_lt {m : Cells α} {lo k : Nat} (h : Cells.wfFrom lo m = true) (hk : k < lo) : m.get k = none := by
  induction m generalizing lo with
  | nil => rfl
  | cons c m ih =>
    obtain ⟨j, v⟩ := c
    simp only [Cells.wfFrom, Bool.and_eq_true, decide_eq_true_eq] at h
    simp only [Cells.get, if_neg (show j ≠ k by omega)]
    exact ih h.2 (by omega)

theorem Cells.wfFrom_mono {m : Cells α} {lo lo' : Nat} (h : Cells.wfFrom lo m = true) (hl : lo' ≤ lo) :
    Cells.wfFrom lo' m = true := by
  cases m with
  | nil => rfl
  | cons c m =>
    simp only [Cells.wfFrom, Bool.and_eq_true, decide_eq_true_eq] at h ⊢
    exact ⟨by omega, h.2⟩

@[simp] theorem Cells.get_put_same (m : Cells α) (k : Nat) (v : α) : (m.put k v).get k = some v := by
  induction m with
  | nil => simp [Cells.put, Cells.get]
  | cons c m ih =>
    obtain ⟨j, w⟩ := c
    simp only [Cells.put]
    split
    · simp [Cells.get]
    · split
      · simp [Cells.get]
      · rw [Cells.get, if_neg (by omega), ih]

theorem Cells.get_put_other {m : Cells α} {k a : Nat} (v : α) (h : a ≠ k) : (m.put k v).get a = m.get a := by
  induction m with
  | nil => simp [Cells.put, Cells.get, h.symm]
  | cons c m ih =>
    obtain ⟨j, w⟩ := c
    simp only [Cells.put]
    split
    · rw [Cells.get, if_neg (by omega)]
    · split
      · subst_vars
        simp [Cells.get, h.symm]
      · simp only [Cells.get, ih]

theorem Cells.get_put (m : Cells α) (k a : Nat) (v : α) : (m.put k v).get a = if a = k then some v else m.get a := by
  split
  · subst_vars; simp
  · exact Cells.get_put_other v ‹_›

theorem Cells.wfFrom_put {m : Cells α} {lo k : Nat} (v : α) (h : Cells.wfFrom lo m = true) (hk : lo ≤ k) :
    Cells.wfFrom lo (m.put k v) = true := by
  induction m generalizing lo with
  | nil => simpa [Cells.put, Cells.wfFrom] using hk
  | cons c m ih =>
    obtain ⟨j, w⟩ := c
    simp only [Cells.wfFrom, Bool.and_eq_true, decide_eq_true_eq] at h
    simp only [Cells.put]
    split
    · simp only [Cells.wfFrom, Bool.and_eq_true, decide_eq_true_eq]
      exact ⟨hk, by omega, h.2⟩
    · split
      · subst_vars
        simpa [Cells.wfFrom, hk] using h.2
      · simp only [Cells.wfFrom, Bool.and_eq_true, decide_eq_true_eq]
        exact ⟨h.1, ih h.2 (by omega)⟩

/-- Writing keeps the canonical form. -/
theorem Cells.wf_put {m : Cells α} (k : Nat) (v : α) (h : m.wf = true) : (m.put k v).wf = true :=
  Cells.wfFrom_put v h (Nat.zero_le k)

theorem Cells.wfFrom_erase {m : Cells α} {lo : Nat} (k : Nat) (h : Cells.wfFrom lo m = true) :
    Cells.wfFrom lo (m.erase k) = true := by
  induction m generalizing lo with
  | nil => rfl
  | cons c m ih =>
    obtain ⟨j, w⟩ := c
    simp only [Cells.wfFrom, Bool.and_eq_true, decide_eq_true_eq] at h
    simp only [Cells.erase]
    split
    · exact Cells.wfFrom_mono h.2 (by omega)
    · simp only [Cells.wfFrom, Bool.and_eq_true, decide_eq_true_eq]
      exact ⟨h.1, ih h.2⟩

/-- Removing a key keeps the canonical form. -/
theorem Cells.wf_erase {m : Cells α} (k : Nat) (h : m.wf = true) : (m.erase k).wf = true := Cells.wfFrom_erase k h

/-- Writing an entry that may be `NIL` keeps the canonical form. -/
theorem Cells.wf_assign {m : Cells α} (k : Nat) (v : Option α) (h : m.wf = true) : (m.assign k v).wf = true := by
  cases v with
  | none => exact Cells.wf_erase k h
  | some w => exact Cells.wf_put k w h

theorem Cells.get_erase_other {m : Cells α} {k a : Nat} (h : a ≠ k) : (m.erase k).get a = m.get a := by
  induction m with
  | nil => rfl
  | cons c m ih =>
    obtain ⟨j, w⟩ := c
    simp only [Cells.erase]
    split
    · rw [Cells.get, if_neg (by omega)]
    · simp only [Cells.get, ih]

theorem Cells.get_erase_same {m : Cells α} {lo : Nat} (k : Nat) (h : Cells.wfFrom lo m = true) : (m.erase k).get k = none := by
  induction m generalizing lo with
  | nil => rfl
  | cons c m ih =>
    obtain ⟨j, w⟩ := c
    simp only [Cells.wfFrom, Bool.and_eq_true, decide_eq_true_eq] at h
    simp only [Cells.erase]
    split
    · exact Cells.get_of_wfFrom_lt h.2 (by omega)
    · rw [Cells.get, if_neg ‹_›, ih h.2]

/-- In a canonical table, an assignment is read back, and other keys are untouched. -/
theorem Cells.get_assign {m : Cells α} (k a : Nat) (v : Option α) (h : m.wf = true) :
    (m.assign k v).get a = if a = k then v else m.get a := by
  cases v with
  | none =>
    simp only [Cells.assign]
    split
    · subst_vars; exact Cells.get_erase_same _ h
    · exact Cells.get_erase_other ‹_›
  | some w => simp only [Cells.assign, Cells.get_put]

theorem Cells.ext_from {m m' : Cells α} {lo : Nat} (h : Cells.wfFrom lo m = true) (h' : Cells.wfFrom lo m' = true)
    (he : ∀ k, m.get k = m'.get k) : m = m' := by
  induction m generalizing m' lo with
  | nil =>
    cases m' with
    | nil => rfl
    | cons c m' => simpa [Cells.get] using he c.1
  | cons c m ih =>
    obtain ⟨j, v⟩ := c
    cases m' with
    | nil => simpa [Cells.get] using he j
    | cons c' m' =>
      obtain ⟨j', v'⟩ := c'
      simp only [Cells.wfFrom, Bool.and_eq_true, decide_eq_true_eq] at h h'
      have hj : j = j' := by
        rcases Nat.lt_trichotomy j j' with hlt | heq | hgt
        · have := he j
          rw [Cells.get, if_pos rfl, Cells.get, if_neg (by omega), Cells.get_of_wfFrom_lt h'.2 (by omega)] at this
          cases this
        · exact heq
        · have := he j'
          rw [Cells.get, if_neg (by omega), Cells.get, if_pos rfl, Cells.get_of_wfFrom_lt h.2 (by omega)] at this
          cases this
      subst hj
      have hv : v = v' := by simpa [Cells.get] using he j
      subst hv
      rw [ih h.2 h'.2]
      intro k
      by_cases hk : j = k
      · subst hk
        rw [Cells.get_of_wfFrom_lt h.2 (by omega), Cells.get_of_wfFrom_lt h'.2 (by omega)]
      · simpa [Cells.get, hk] using he k

/-- Canonical tables that read alike are equal data. -/
theorem Cells.eq_of_get_eq {m m' : Cells α} (h : m.wf = true) (h' : m'.wf = true) (he : ∀ k, m.get k = m'.get k) : m = m' :=
  Cells.ext_from h h' he

/-! ### `IN` -/

/-- A read after a write. -/
theorem Memory.read_write (m : Memory) (a x : Nat) (b : Byte) :
    (m.write a b).read x = if x = a then some b else m.read x := Cells.get_put m a x b

/-- A write keeps the canonical form. -/
theorem Memory.wf_write {m : Memory} (a : Nat) (b : Byte) (h : m.wf = true) : (m.write a b).wf = true := Cells.wf_put a b h

theorem Memory.wf_writeBytes {m : Memory} (a : Nat) (bs : List Byte) (h : m.wf = true) : (m.writeBytes a bs).wf = true := by
  induction bs generalizing m a with
  | nil => exact h
  | cons b bs ih => exact ih (a + 1) (Memory.wf_write a b h)

/-- `IN` is canonical after reset. -/
theorem Memory.wf_reset : State.reset.inBuf.wf = true := rfl

/-- A read of several bytes succeeds exactly when each of them has been written. -/
theorem Memory.readBytes_eq_some {m : Memory} {a k : Nat} {bs : List Byte} :
    m.readBytes a k = some bs ↔ bs.length = k ∧ ∀ i < k, m.read (a + i) = bs[i]? := by
  induction k generalizing a bs with
  | zero =>
    simp only [Memory.readBytes, Option.some.injEq, Nat.not_lt_zero, false_implies, implies_true, and_true]
    exact ⟨fun h => by simp [← h], fun h => (List.length_eq_zero_iff.mp h).symm⟩
  | succ k ih =>
    rw [Memory.readBytes]
    constructor
    · intro h
      split at h
      · rename_i b bs' hb hbs
        obtain ⟨hl, hr⟩ := ih.mp hbs
        cases h
        refine ⟨by simp [hl], fun i hi => ?_⟩
        cases i with
        | zero => simpa using hb
        | succ i => simpa [Nat.add_assoc, Nat.add_comm 1 i] using hr i (by omega)
      · cases h
    · rintro ⟨hl, hr⟩
      cases bs with
      | nil => simp at hl
      | cons b bs =>
        have h0 := hr 0 (by omega)
        have hrest : Memory.readBytes m (a + 1) k = some bs :=
          ih.mpr ⟨by simpa using hl, fun i hi => by
            simpa [Nat.add_assoc, Nat.add_comm 1 i] using hr (i + 1) (by omega)⟩
        simp only [Nat.add_zero, List.getElem?_cons_zero] at h0
        rw [h0, hrest]

theorem Memory.length_readBytes {m : Memory} {a k : Nat} {bs : List Byte} (h : m.readBytes a k = some bs) : bs.length = k :=
  (Memory.readBytes_eq_some.mp h).1

/-- The input a command sees has the latched length. -/
theorem State.length_input {s : State} {d : List Byte} (h : s.input = some d) : d.length = s.n := Memory.length_readBytes h

/-- What an operation that reads `IN` can do. -/
theorem withInput_cases (s : State) (k : List Byte → StepResult) :
    (∃ d, s.input = some d ∧ d.length = s.n ∧ withInput s k = k d) ∨
      (s.input = none ∧ withInput s k = .fault .inUnwritten) := by
  unfold withInput
  cases h : s.input with
  | none => exact .inr ⟨rfl, rfl⟩
  | some d => exact .inl ⟨d, rfl, State.length_input h, rfl⟩

theorem withInput_eq {s : State} {d : List Byte} (h : s.input = some d) (k : List Byte → StepResult) :
    withInput s k = k d := by simp [withInput, h]

end Sys2Proof.Machine
end

