-- ==== Sys2Proof/Laws/Gzip.lean ====
section
/-! SUPPORT. What the gzip framer's skipping functions find, in terms of the bytes alone (spec/46_gzip_framer.md R269, R270). -/

namespace Sys2Proof.Machine

theorem leNat_take_two (d : List Byte) (pos : Nat) :
    leNat ((d.drop pos).take 2) = (byteAt d pos).toNat + 256 * (byteAt d (pos + 1)).toNat := by
  simp only [byteAt, List.getD_eq_getElem?_getD]
  rw [← Nat.add_zero pos, ← List.getElem?_drop, Nat.add_zero, ← List.getElem?_drop]
  rcases d.drop pos with _ | ⟨a, _ | ⟨b, l⟩⟩ <;> simp [leNat]

/-- FEXTRA is skipped to where it ends, if that is not beyond the footer's start. -/
theorem skipFextra_eq_some {d : List Byte} {pos endPos past : Nat} :
    skipFextra d pos endPos = some past ↔ fextraEnds d pos past ∧ past ≤ endPos := by
  simp only [skipFextra, fextraEnds, leNat_take_two]
  split
  · simp; omega
  · split
    · simp; omega
    · simp only [Option.some.injEq]; omega

theorem skipTextLoop_eq_some {d : List Byte} {fuel pos past : Nat} :
    skipTextLoop d pos fuel = some past ↔ textEnds d pos past ∧ past ≤ pos + fuel := by
  induction fuel generalizing pos with
  | zero =>
    simp only [skipTextLoop, textEnds, reduceCtorEq, false_iff]
    rintro ⟨⟨k, rfl, h, -⟩, hle⟩
    omega
  | succ fuel ih =>
    simp only [skipTextLoop]
    split
    case isTrue h0 =>
      simp only [Option.some.injEq, textEnds]
      constructor
      · rintro rfl
        exact ⟨⟨pos, rfl, Nat.le_refl _, h0, fun j h1 h2 => absurd h2 (by omega)⟩, by omega⟩
      · rintro ⟨⟨k, rfl, hk, -, hall⟩, -⟩
        by_contra hne
        exact hall pos (Nat.le_refl _) (by omega) h0
    case isFalse h0 =>
      rw [ih]
      constructor
      · rintro ⟨⟨k, rfl, hk, hz, hall⟩, hle⟩
        refine ⟨⟨k, rfl, by omega, hz, fun j h1 h2 => ?_⟩, by omega⟩
        by_cases hj : j = pos
        · exact hj ▸ h0
        · exact hall j (by omega) h2
      · rintro ⟨⟨k, rfl, hk, hz, hall⟩, hle⟩
        have : k ≠ pos := fun he => h0 (he ▸ hz)
        exact ⟨⟨k, rfl, by omega, hz, fun j h1 h2 => hall j (by omega) h2⟩, by omega⟩

/-- A text field is skipped to just after its first NUL, if that is before the footer. -/
theorem skipText_eq_some {d : List Byte} {pos endPos past : Nat} :
    skipText d pos endPos = some past ↔ textEnds d pos past ∧ past ≤ endPos := by
  rw [skipText, skipTextLoop_eq_some]
  constructor <;> rintro ⟨⟨k, rfl, h, hz, ha⟩, hle⟩ <;> exact ⟨⟨k, rfl, h, hz, ha⟩, by omega⟩

/-- FHCRC is two bytes, if they end before the footer. -/
theorem skipFhcrc_eq_some {pos endPos past : Nat} : skipFhcrc pos endPos = some past ↔ past = pos + 2 ∧ past ≤ endPos := by
  simp only [skipFhcrc]
  split
  · simp; omega
  · simp only [Option.some.injEq]; omega

/-- A field that is skipped if it is there. -/
theorem skipIf_eq_some {skip : Nat → Option Nat} {ends : Nat → Nat → Prop} {endPos : Nat}
    (h : ∀ pos past, skip pos = some past ↔ ends pos past ∧ past ≤ endPos) {flag : Bool} {pos past : Nat}
    (hp : pos ≤ endPos) : skipIf flag pos skip = some past ↔ fieldEnds flag ends pos past ∧ past ≤ endPos := by
  cases flag
  · simp only [skipIf, fieldEnds, Bool.false_eq_true, if_false, Option.some.injEq]; omega
  · simp only [skipIf, fieldEnds, if_true, h]

theorem fieldEnds_le {ends : Nat → Nat → Prop} (h : ∀ pos past, ends pos past → pos ≤ past) {flag : Bool} {pos past : Nat}
    (hf : fieldEnds flag ends pos past) : pos ≤ past := by
  cases flag
  · exact Nat.le_of_eq (by simpa [fieldEnds] using hf.symm)
  · exact h _ _ (by simpa [fieldEnds] using hf)

theorem fextraEnds_le {d : List Byte} {pos past : Nat} (h : fextraEnds d pos past) : pos ≤ past := by
  unfold fextraEnds at h; omega

theorem textEnds_le {d : List Byte} {pos past : Nat} (h : textEnds d pos past) : pos ≤ past := by
  obtain ⟨k, rfl, hk, -⟩ := h; omega

/-- R270 whole: the fields are skipped to where they end, if that is not beyond the footer's start. -/
theorem skipFields_eq_some {d : List Byte} {flg : Byte} {endPos past : Nat} (he : 10 ≤ endPos) :
    skipFields d flg endPos = some past ↔ headerEnds d flg past ∧ past ≤ endPos := by
  simp only [skipFields, Option.bind_eq_some_iff, headerEnds, Config.headerLen]
  have fextra := fun (pos past : Nat) (hp : pos ≤ endPos) =>
    skipIf_eq_some (skip := (skipFextra d · endPos)) (fun _ _ => skipFextra_eq_some) (flag := flg.getLsbD 2) (past := past) hp
  have text := fun (flag : Bool) (pos past : Nat) (hp : pos ≤ endPos) =>
    skipIf_eq_some (skip := (skipText d · endPos)) (fun _ _ => skipText_eq_some) (flag := flag) (past := past) hp
  have fhcrc := fun (pos past : Nat) (hp : pos ≤ endPos) =>
    skipIf_eq_some (skip := (skipFhcrc · endPos)) (ends := fun pos past => past = pos + 2) (fun _ _ => skipFhcrc_eq_some)
      (flag := flg.getLsbD 1) (past := past) hp
  constructor
  · rintro ⟨p1, h1, p2, h2, p3, h3, h4⟩
    obtain ⟨h1, l1⟩ := (fextra _ _ he).mp h1
    obtain ⟨h2, l2⟩ := (text _ _ _ l1).mp h2
    obtain ⟨h3, l3⟩ := (text _ _ _ l2).mp h3
    obtain ⟨h4, l4⟩ := (fhcrc _ _ l3).mp h4
    exact ⟨⟨p1, p2, p3, h1, h2, h3, h4⟩, l4⟩
  · rintro ⟨⟨p1, p2, p3, h1, h2, h3, h4⟩, l4⟩
    have l3 : p3 ≤ endPos := Nat.le_trans (fieldEnds_le (fun _ _ h => by omega) h4) l4
    have l2 : p2 ≤ endPos := Nat.le_trans (fieldEnds_le (fun _ _ => textEnds_le) h3) l3
    have l1 : p1 ≤ endPos := Nat.le_trans (fieldEnds_le (fun _ _ => textEnds_le) h2) l2
    exact ⟨p1, (fextra _ _ he).mpr ⟨h1, l1⟩, p2, (text _ _ _ l1).mpr ⟨h2, l2⟩, p3, (text _ _ _ l2).mpr ⟨h3, l3⟩,
      (fhcrc _ _ l3).mpr ⟨h4, l4⟩⟩

/-- The magic and method of R269, byte by byte. -/
theorem leNat_take_three_eq_magic {d : List Byte} (h : 3 ≤ d.length) :
    leNat (d.take 3) = gzMagic ↔ d.take 3 = [0x1F, 0x8B, 0x08] := by
  obtain ⟨a, b, c, l, rfl⟩ : ∃ a b c l, d = a :: b :: c :: l := by
    match d, h with
    | a :: b :: c :: l, _ => exact ⟨a, b, c, l, rfl⟩
  simp only [List.take_succ_cons, List.take_zero, leNat, gzMagic, List.cons.injEq, and_true]
  constructor
  · intro h
    refine ⟨BitVec.eq_of_toNat_eq ?_, BitVec.eq_of_toNat_eq ?_, BitVec.eq_of_toNat_eq ?_⟩ <;> simp <;> omega
  · rintro ⟨rfl, rfl, rfl⟩; rfl

end Sys2Proof.Machine
end

