-- ==== Sys2Proof/Laws/PerInstr.lean ====
section
/-! SUPPORT. Per instruction: the word the encoder writes is the word its row of spec/opcode_table.json describes (R137).
`row` is that table's `match` and `mask`, copied row by row. -/

namespace Sys2Proof.Laws.TableRow

open Sys2Proof.Machine

/-- `match` and `mask` of a table row. -/
structure Row where
  value : Nat
  mask : Nat
deriving DecidableEq, Repr

/-- The rows of spec/opcode_table.json. -/
def row (i : Instr) : Row :=
  match i with
  | .len257 => ⟨0x040, 0x07F⟩
  | .len258 => ⟨0x020, 0x07F⟩
  | .len259 => ⟨0x060, 0x07F⟩
  | .len260 => ⟨0x010, 0x07F⟩
  | .len261 => ⟨0x050, 0x07F⟩
  | .len262 => ⟨0x030, 0x07F⟩
  | .len263 => ⟨0x070, 0x07F⟩
  | .len264 => ⟨0x008, 0x07F⟩
  | .len265 _ => ⟨0x048, 0x07F⟩
  | .len266 _ => ⟨0x028, 0x07F⟩
  | .len267 _ => ⟨0x068, 0x07F⟩
  | .len268 _ => ⟨0x018, 0x07F⟩
  | .len269 _ => ⟨0x058, 0x07F⟩
  | .len270 _ => ⟨0x038, 0x07F⟩
  | .len271 _ => ⟨0x078, 0x07F⟩
  | .len272 _ => ⟨0x004, 0x07F⟩
  | .len273 _ => ⟨0x044, 0x07F⟩
  | .len274 _ => ⟨0x024, 0x07F⟩
  | .len275 _ => ⟨0x064, 0x07F⟩
  | .len276 _ => ⟨0x014, 0x07F⟩
  | .len277 _ => ⟨0x054, 0x07F⟩
  | .len278 _ => ⟨0x034, 0x07F⟩
  | .len279 _ => ⟨0x074, 0x07F⟩
  | .len280 _ => ⟨0x003, 0x0FF⟩
  | .len281 _ => ⟨0x083, 0x0FF⟩
  | .len282 _ => ⟨0x043, 0x0FF⟩
  | .len283 _ => ⟨0x0C3, 0x0FF⟩
  | .len284 _ => ⟨0x023, 0x0FF⟩
  | .len285 => ⟨0x0A3, 0x0FF⟩
  | .dist0 => ⟨0x00, 0x1F⟩
  | .dist1 => ⟨0x10, 0x1F⟩
  | .dist2 => ⟨0x08, 0x1F⟩
  | .dist3 => ⟨0x18, 0x1F⟩
  | .dist4 _ => ⟨0x04, 0x1F⟩
  | .dist5 _ => ⟨0x14, 0x1F⟩
  | .dist6 _ => ⟨0x0C, 0x1F⟩
  | .dist7 _ => ⟨0x1C, 0x1F⟩
  | .dist8 _ => ⟨0x02, 0x1F⟩
  | .dist9 _ => ⟨0x12, 0x1F⟩
  | .dist10 _ => ⟨0x0A, 0x1F⟩
  | .dist11 _ => ⟨0x1A, 0x1F⟩
  | .dist12 _ => ⟨0x06, 0x1F⟩
  | .dist13 _ => ⟨0x16, 0x1F⟩
  | .dist14 _ => ⟨0x0E, 0x1F⟩
  | .dist15 _ => ⟨0x1E, 0x1F⟩
  | .dist16 _ => ⟨0x01, 0x1F⟩
  | .dist17 _ => ⟨0x11, 0x1F⟩
  | .dist18 _ => ⟨0x09, 0x1F⟩
  | .dist19 _ => ⟨0x19, 0x1F⟩
  | .dist20 _ => ⟨0x05, 0x1F⟩
  | .dist21 _ => ⟨0x15, 0x1F⟩
  | .dist22 _ => ⟨0x0D, 0x1F⟩
  | .dist23 _ => ⟨0x1D, 0x1F⟩
  | .dist24 _ => ⟨0x03, 0x1F⟩
  | .dist25 _ => ⟨0x13, 0x1F⟩
  | .dist26 _ => ⟨0x0B, 0x1F⟩
  | .dist27 _ => ⟨0x1B, 0x1F⟩
  | .dist28 _ => ⟨0x07, 0x1F⟩
  | .dist29 _ => ⟨0x17, 0x1F⟩
  | .reservedDist30 => ⟨0x0F, 0x1F⟩
  | .reservedDist31 => ⟨0x1F, 0x1F⟩
  | .blkStored _ => ⟨0x0, 0x6⟩
  | .blkFixed _ => ⟨0x2, 0x6⟩
  | .blkDynamic _ => ⟨0x4, 0x6⟩
  | .blkReserved _ => ⟨0x6, 0x6⟩
  | .storedBody _ _ => ⟨0xFFFF, 0xFFFF⟩
  | .gzhdr _ _ _ _ => ⟨0x088B1F, 0xFFFFFF⟩
  | .gzoptFextra => ⟨0x04, 0x04⟩
  | .gzoptFname => ⟨0x08, 0x08⟩
  | .gzoptFcomment => ⟨0x10, 0x10⟩
  | .gzoptFhcrc => ⟨0x02, 0x02⟩
  | .gzftr _ _ => ⟨0x0, 0x0⟩
  | .cmdNone => ⟨0x0, 0x3⟩
  | .compress => ⟨0x1, 0x3⟩
  | .decompress => ⟨0x2, 0x3⟩
  | .cmdReserved => ⟨0x3, 0x3⟩
  | .bwInit => ⟨0x10, 0xFF⟩
  | .bwWritebits _ _ => ⟨0x11, 0xFF⟩
  | .bwAlign => ⟨0x12, 0xFF⟩
  | .bwAppendbyte _ => ⟨0x13, 0xFF⟩
  | .brInit _ => ⟨0x20, 0xFF⟩
  | .brReadbits _ => ⟨0x21, 0xFF⟩
  | .brPeekbits _ => ⟨0x22, 0xFF⟩
  | .brAlign => ⟨0x23, 0xFF⟩
  | .brSkipbits _ => ⟨0x24, 0xFF⟩
  | .crcInit => ⟨0x30, 0xFF⟩
  | .crcUpdate _ => ⟨0x31, 0xFF⟩
  | .crcFinal => ⟨0x32, 0xFF⟩
  | .heLitlen _ => ⟨0x40, 0xFF⟩
  | .heDist _ => ⟨0x41, 0xFF⟩
  | .hdLitlen => ⟨0x50, 0xFF⟩
  | .hdDist => ⟨0x51, 0xFF⟩
  | .tkInsert _ => ⟨0x60, 0xFF⟩
  | .tkFindmatch _ => ⟨0x61, 0xFF⟩
  | .tkTokenize => ⟨0x62, 0xFF⟩
  | .encBlock => ⟨0x70, 0xFF⟩
  | .encLiteral _ => ⟨0x71, 0xFF⟩
  | .encMatch _ _ => ⟨0x72, 0xFF⟩
  | .encEob => ⟨0x73, 0xFF⟩
  | .decInflate => ⟨0x80, 0xFF⟩
  | .decBlkhdr => ⟨0x81, 0xFF⟩
  | .decStored => ⟨0x82, 0xFF⟩
  | .decFixed => ⟨0x83, 0xFF⟩
  | .decCopy _ _ => ⟨0x84, 0xFF⟩
  | .gzWritehdr => ⟨0x90, 0xFF⟩
  | .gzWriteftr => ⟨0x91, 0xFF⟩
  | .gzParsehdr => ⟨0x92, 0xFF⟩
  | .gzCheckftr => ⟨0x93, 0xFF⟩
  | .lit00 => ⟨0x00C, 0x0FF⟩
  | .lit01 => ⟨0x08C, 0x0FF⟩
  | .lit02 => ⟨0x04C, 0x0FF⟩
  | .lit03 => ⟨0x0CC, 0x0FF⟩
  | .lit04 => ⟨0x02C, 0x0FF⟩
  | .lit05 => ⟨0x0AC, 0x0FF⟩
  | .lit06 => ⟨0x06C, 0x0FF⟩
  | .lit07 => ⟨0x0EC, 0x0FF⟩
  | .lit08 => ⟨0x01C, 0x0FF⟩
  | .lit09 => ⟨0x09C, 0x0FF⟩
  | .lit0A => ⟨0x05C, 0x0FF⟩
  | .lit0B => ⟨0x0DC, 0x0FF⟩
  | .lit0C => ⟨0x03C, 0x0FF⟩
  | .lit0D => ⟨0x0BC, 0x0FF⟩
  | .lit0E => ⟨0x07C, 0x0FF⟩
  | .lit0F => ⟨0x0FC, 0x0FF⟩
  | .lit10 => ⟨0x002, 0x0FF⟩
  | .lit11 => ⟨0x082, 0x0FF⟩
  | .lit12 => ⟨0x042, 0x0FF⟩
  | .lit13 => ⟨0x0C2, 0x0FF⟩
  | .lit14 => ⟨0x022, 0x0FF⟩
  | .lit15 => ⟨0x0A2, 0x0FF⟩
  | .lit16 => ⟨0x062, 0x0FF⟩
  | .lit17 => ⟨0x0E2, 0x0FF⟩
  | .lit18 => ⟨0x012, 0x0FF⟩
  | .lit19 => ⟨0x092, 0x0FF⟩
  | .lit1A => ⟨0x052, 0x0FF⟩
  | .lit1B => ⟨0x0D2, 0x0FF⟩
  | .lit1C => ⟨0x032, 0x0FF⟩
  | .lit1D => ⟨0x0B2, 0x0FF⟩
  | .lit1E => ⟨0x072, 0x0FF⟩
  | .lit1F => ⟨0x0F2, 0x0FF⟩
  | .lit20 => ⟨0x00A, 0x0FF⟩
  | .lit21 => ⟨0x08A, 0x0FF⟩
  | .lit22 => ⟨0x04A, 0x0FF⟩
  | .lit23 => ⟨0x0CA, 0x0FF⟩
  | .lit24 => ⟨0x02A, 0x0FF⟩
  | .lit25 => ⟨0x0AA, 0x0FF⟩
  | .lit26 => ⟨0x06A, 0x0FF⟩
  | .lit27 => ⟨0x0EA, 0x0FF⟩
  | .lit28 => ⟨0x01A, 0x0FF⟩
  | .lit29 => ⟨0x09A, 0x0FF⟩
  | .lit2A => ⟨0x05A, 0x0FF⟩
  | .lit2B => ⟨0x0DA, 0x0FF⟩
  | .lit2C => ⟨0x03A, 0x0FF⟩
  | .lit2D => ⟨0x0BA, 0x0FF⟩
  | .lit2E => ⟨0x07A, 0x0FF⟩
  | .lit2F => ⟨0x0FA, 0x0FF⟩
  | .lit30 => ⟨0x006, 0x0FF⟩
  | .lit31 => ⟨0x086, 0x0FF⟩
  | .lit32 => ⟨0x046, 0x0FF⟩
  | .lit33 => ⟨0x0C6, 0x0FF⟩
  | .lit34 => ⟨0x026, 0x0FF⟩
  | .lit35 => ⟨0x0A6, 0x0FF⟩
  | .lit36 => ⟨0x066, 0x0FF⟩
  | .lit37 => ⟨0x0E6, 0x0FF⟩
  | .lit38 => ⟨0x016, 0x0FF⟩
  | .lit39 => ⟨0x096, 0x0FF⟩
  | .lit3A => ⟨0x056, 0x0FF⟩
  | .lit3B => ⟨0x0D6, 0x0FF⟩
  | .lit3C => ⟨0x036, 0x0FF⟩
  | .lit3D => ⟨0x0B6, 0x0FF⟩
  | .lit3E => ⟨0x076, 0x0FF⟩
  | .lit3F => ⟨0x0F6, 0x0FF⟩
  | .lit40 => ⟨0x00E, 0x0FF⟩
  | .lit41 => ⟨0x08E, 0x0FF⟩
  | .lit42 => ⟨0x04E, 0x0FF⟩
  | .lit43 => ⟨0x0CE, 0x0FF⟩
  | .lit44 => ⟨0x02E, 0x0FF⟩
  | .lit45 => ⟨0x0AE, 0x0FF⟩
  | .lit46 => ⟨0x06E, 0x0FF⟩
  | .lit47 => ⟨0x0EE, 0x0FF⟩
  | .lit48 => ⟨0x01E, 0x0FF⟩
  | .lit49 => ⟨0x09E, 0x0FF⟩
  | .lit4A => ⟨0x05E, 0x0FF⟩
  | .lit4B => ⟨0x0DE, 0x0FF⟩
  | .lit4C => ⟨0x03E, 0x0FF⟩
  | .lit4D => ⟨0x0BE, 0x0FF⟩
  | .lit4E => ⟨0x07E, 0x0FF⟩
  | .lit4F => ⟨0x0FE, 0x0FF⟩
  | .lit50 => ⟨0x001, 0x0FF⟩
  | .lit51 => ⟨0x081, 0x0FF⟩
  | .lit52 => ⟨0x041, 0x0FF⟩
  | .lit53 => ⟨0x0C1, 0x0FF⟩
  | .lit54 => ⟨0x021, 0x0FF⟩
  | .lit55 => ⟨0x0A1, 0x0FF⟩
  | .lit56 => ⟨0x061, 0x0FF⟩
  | .lit57 => ⟨0x0E1, 0x0FF⟩
  | .lit58 => ⟨0x011, 0x0FF⟩
  | .lit59 => ⟨0x091, 0x0FF⟩
  | .lit5A => ⟨0x051, 0x0FF⟩
  | .lit5B => ⟨0x0D1, 0x0FF⟩
  | .lit5C => ⟨0x031, 0x0FF⟩
  | .lit5D => ⟨0x0B1, 0x0FF⟩
  | .lit5E => ⟨0x071, 0x0FF⟩
  | .lit5F => ⟨0x0F1, 0x0FF⟩
  | .lit60 => ⟨0x009, 0x0FF⟩
  | .lit61 => ⟨0x089, 0x0FF⟩
  | .lit62 => ⟨0x049, 0x0FF⟩
  | .lit63 => ⟨0x0C9, 0x0FF⟩
  | .lit64 => ⟨0x029, 0x0FF⟩
  | .lit65 => ⟨0x0A9, 0x0FF⟩
  | .lit66 => ⟨0x069, 0x0FF⟩
  | .lit67 => ⟨0x0E9, 0x0FF⟩
  | .lit68 => ⟨0x019, 0x0FF⟩
  | .lit69 => ⟨0x099, 0x0FF⟩
  | .lit6A => ⟨0x059, 0x0FF⟩
  | .lit6B => ⟨0x0D9, 0x0FF⟩
  | .lit6C => ⟨0x039, 0x0FF⟩
  | .lit6D => ⟨0x0B9, 0x0FF⟩
  | .lit6E => ⟨0x079, 0x0FF⟩
  | .lit6F => ⟨0x0F9, 0x0FF⟩
  | .lit70 => ⟨0x005, 0x0FF⟩
  | .lit71 => ⟨0x085, 0x0FF⟩
  | .lit72 => ⟨0x045, 0x0FF⟩
  | .lit73 => ⟨0x0C5, 0x0FF⟩
  | .lit74 => ⟨0x025, 0x0FF⟩
  | .lit75 => ⟨0x0A5, 0x0FF⟩
  | .lit76 => ⟨0x065, 0x0FF⟩
  | .lit77 => ⟨0x0E5, 0x0FF⟩
  | .lit78 => ⟨0x015, 0x0FF⟩
  | .lit79 => ⟨0x095, 0x0FF⟩
  | .lit7A => ⟨0x055, 0x0FF⟩
  | .lit7B => ⟨0x0D5, 0x0FF⟩
  | .lit7C => ⟨0x035, 0x0FF⟩
  | .lit7D => ⟨0x0B5, 0x0FF⟩
  | .lit7E => ⟨0x075, 0x0FF⟩
  | .lit7F => ⟨0x0F5, 0x0FF⟩
  | .lit80 => ⟨0x00D, 0x0FF⟩
  | .lit81 => ⟨0x08D, 0x0FF⟩
  | .lit82 => ⟨0x04D, 0x0FF⟩
  | .lit83 => ⟨0x0CD, 0x0FF⟩
  | .lit84 => ⟨0x02D, 0x0FF⟩
  | .lit85 => ⟨0x0AD, 0x0FF⟩
  | .lit86 => ⟨0x06D, 0x0FF⟩
  | .lit87 => ⟨0x0ED, 0x0FF⟩
  | .lit88 => ⟨0x01D, 0x0FF⟩
  | .lit89 => ⟨0x09D, 0x0FF⟩
  | .lit8A => ⟨0x05D, 0x0FF⟩
  | .lit8B => ⟨0x0DD, 0x0FF⟩
  | .lit8C => ⟨0x03D, 0x0FF⟩
  | .lit8D => ⟨0x0BD, 0x0FF⟩
  | .lit8E => ⟨0x07D, 0x0FF⟩
  | .lit8F => ⟨0x0FD, 0x0FF⟩
  | .lit90 => ⟨0x013, 0x1FF⟩
  | .lit91 => ⟨0x113, 0x1FF⟩
  | .lit92 => ⟨0x093, 0x1FF⟩
  | .lit93 => ⟨0x193, 0x1FF⟩
  | .lit94 => ⟨0x053, 0x1FF⟩
  | .lit95 => ⟨0x153, 0x1FF⟩
  | .lit96 => ⟨0x0D3, 0x1FF⟩
  | .lit97 => ⟨0x1D3, 0x1FF⟩
  | .lit98 => ⟨0x033, 0x1FF⟩
  | .lit99 => ⟨0x133, 0x1FF⟩
  | .lit9A => ⟨0x0B3, 0x1FF⟩
  | .lit9B => ⟨0x1B3, 0x1FF⟩
  | .lit9C => ⟨0x073, 0x1FF⟩
  | .lit9D => ⟨0x173, 0x1FF⟩
  | .lit9E => ⟨0x0F3, 0x1FF⟩
  | .lit9F => ⟨0x1F3, 0x1FF⟩
  | .litA0 => ⟨0x00B, 0x1FF⟩
  | .litA1 => ⟨0x10B, 0x1FF⟩
  | .litA2 => ⟨0x08B, 0x1FF⟩
  | .litA3 => ⟨0x18B, 0x1FF⟩
  | .litA4 => ⟨0x04B, 0x1FF⟩
  | .litA5 => ⟨0x14B, 0x1FF⟩
  | .litA6 => ⟨0x0CB, 0x1FF⟩
  | .litA7 => ⟨0x1CB, 0x1FF⟩
  | .litA8 => ⟨0x02B, 0x1FF⟩
  | .litA9 => ⟨0x12B, 0x1FF⟩
  | .litAA => ⟨0x0AB, 0x1FF⟩
  | .litAB => ⟨0x1AB, 0x1FF⟩
  | .litAC => ⟨0x06B, 0x1FF⟩
  | .litAD => ⟨0x16B, 0x1FF⟩
  | .litAE => ⟨0x0EB, 0x1FF⟩
  | .litAF => ⟨0x1EB, 0x1FF⟩
  | .litB0 => ⟨0x01B, 0x1FF⟩
  | .litB1 => ⟨0x11B, 0x1FF⟩
  | .litB2 => ⟨0x09B, 0x1FF⟩
  | .litB3 => ⟨0x19B, 0x1FF⟩
  | .litB4 => ⟨0x05B, 0x1FF⟩
  | .litB5 => ⟨0x15B, 0x1FF⟩
  | .litB6 => ⟨0x0DB, 0x1FF⟩
  | .litB7 => ⟨0x1DB, 0x1FF⟩
  | .litB8 => ⟨0x03B, 0x1FF⟩
  | .litB9 => ⟨0x13B, 0x1FF⟩
  | .litBA => ⟨0x0BB, 0x1FF⟩
  | .litBB => ⟨0x1BB, 0x1FF⟩
  | .litBC => ⟨0x07B, 0x1FF⟩
  | .litBD => ⟨0x17B, 0x1FF⟩
  | .litBE => ⟨0x0FB, 0x1FF⟩
  | .litBF => ⟨0x1FB, 0x1FF⟩
  | .litC0 => ⟨0x007, 0x1FF⟩
  | .litC1 => ⟨0x107, 0x1FF⟩
  | .litC2 => ⟨0x087, 0x1FF⟩
  | .litC3 => ⟨0x187, 0x1FF⟩
  | .litC4 => ⟨0x047, 0x1FF⟩
  | .litC5 => ⟨0x147, 0x1FF⟩
  | .litC6 => ⟨0x0C7, 0x1FF⟩
  | .litC7 => ⟨0x1C7, 0x1FF⟩
  | .litC8 => ⟨0x027, 0x1FF⟩
  | .litC9 => ⟨0x127, 0x1FF⟩
  | .litCA => ⟨0x0A7, 0x1FF⟩
  | .litCB => ⟨0x1A7, 0x1FF⟩
  | .litCC => ⟨0x067, 0x1FF⟩
  | .litCD => ⟨0x167, 0x1FF⟩
  | .litCE => ⟨0x0E7, 0x1FF⟩
  | .litCF => ⟨0x1E7, 0x1FF⟩
  | .litD0 => ⟨0x017, 0x1FF⟩
  | .litD1 => ⟨0x117, 0x1FF⟩
  | .litD2 => ⟨0x097, 0x1FF⟩
  | .litD3 => ⟨0x197, 0x1FF⟩
  | .litD4 => ⟨0x057, 0x1FF⟩
  | .litD5 => ⟨0x157, 0x1FF⟩
  | .litD6 => ⟨0x0D7, 0x1FF⟩
  | .litD7 => ⟨0x1D7, 0x1FF⟩
  | .litD8 => ⟨0x037, 0x1FF⟩
  | .litD9 => ⟨0x137, 0x1FF⟩
  | .litDA => ⟨0x0B7, 0x1FF⟩
  | .litDB => ⟨0x1B7, 0x1FF⟩
  | .litDC => ⟨0x077, 0x1FF⟩
  | .litDD => ⟨0x177, 0x1FF⟩
  | .litDE => ⟨0x0F7, 0x1FF⟩
  | .litDF => ⟨0x1F7, 0x1FF⟩
  | .litE0 => ⟨0x00F, 0x1FF⟩
  | .litE1 => ⟨0x10F, 0x1FF⟩
  | .litE2 => ⟨0x08F, 0x1FF⟩
  | .litE3 => ⟨0x18F, 0x1FF⟩
  | .litE4 => ⟨0x04F, 0x1FF⟩
  | .litE5 => ⟨0x14F, 0x1FF⟩
  | .litE6 => ⟨0x0CF, 0x1FF⟩
  | .litE7 => ⟨0x1CF, 0x1FF⟩
  | .litE8 => ⟨0x02F, 0x1FF⟩
  | .litE9 => ⟨0x12F, 0x1FF⟩
  | .litEA => ⟨0x0AF, 0x1FF⟩
  | .litEB => ⟨0x1AF, 0x1FF⟩
  | .litEC => ⟨0x06F, 0x1FF⟩
  | .litED => ⟨0x16F, 0x1FF⟩
  | .litEE => ⟨0x0EF, 0x1FF⟩
  | .litEF => ⟨0x1EF, 0x1FF⟩
  | .litF0 => ⟨0x01F, 0x1FF⟩
  | .litF1 => ⟨0x11F, 0x1FF⟩
  | .litF2 => ⟨0x09F, 0x1FF⟩
  | .litF3 => ⟨0x19F, 0x1FF⟩
  | .litF4 => ⟨0x05F, 0x1FF⟩
  | .litF5 => ⟨0x15F, 0x1FF⟩
  | .litF6 => ⟨0x0DF, 0x1FF⟩
  | .litF7 => ⟨0x1DF, 0x1FF⟩
  | .litF8 => ⟨0x03F, 0x1FF⟩
  | .litF9 => ⟨0x13F, 0x1FF⟩
  | .litFA => ⟨0x0BF, 0x1FF⟩
  | .litFB => ⟨0x1BF, 0x1FF⟩
  | .litFC => ⟨0x07F, 0x1FF⟩
  | .litFD => ⟨0x17F, 0x1FF⟩
  | .litFE => ⟨0x0FF, 0x1FF⟩
  | .litFF => ⟨0x1FF, 0x1FF⟩
  | .eob => ⟨0x000, 0x07F⟩
  | .reservedLitlen286 => ⟨0x063, 0x0FF⟩
  | .reservedLitlen287 => ⟨0x0E3, 0x0FF⟩

/-- The encoder's word lies in the instruction's table row. A stored body's row is on `LEN ^ NLEN`, and it applies exactly
when the complement check holds (R98, R237). -/
def Statement (i : Instr) : Prop :=
  match i with
  | .storedBody len nlen =>
    (((encode i).word % 2 ^ 16) ^^^ ((encode i).word / 2 ^ 16)) &&& (row i).mask = (row i).value ↔ lenNlenOk len nlen = true
  | _ => (encode i).word &&& (row i).mask = (row i).value

/-- The bits above a code of `k` bits are outside its mask. -/
theorem and_mask (a e k : Nat) (h : a < 2 ^ k) : (a + e * 2 ^ k) &&& (2 ^ k - 1) = a := by
  rw [Nat.and_two_pow_sub_one_eq_mod, Nat.add_mul_mod_self_right, Nat.mod_eq_of_lt h]

theorem len257 : Statement .len257 := rfl
theorem len258 : Statement .len258 := rfl
theorem len259 : Statement .len259 := rfl
theorem len260 : Statement .len260 := rfl
theorem len261 : Statement .len261 := rfl
theorem len262 : Statement .len262 := rfl
theorem len263 : Statement .len263 := rfl
theorem len264 : Statement .len264 := rfl
theorem len265 (e : BitVec 1) : Statement (.len265 e) := and_mask 0x048 _ 7 (by decide)
theorem len266 (e : BitVec 1) : Statement (.len266 e) := and_mask 0x028 _ 7 (by decide)
theorem len267 (e : BitVec 1) : Statement (.len267 e) := and_mask 0x068 _ 7 (by decide)
theorem len268 (e : BitVec 1) : Statement (.len268 e) := and_mask 0x018 _ 7 (by decide)
theorem len269 (e : BitVec 2) : Statement (.len269 e) := and_mask 0x058 _ 7 (by decide)
theorem len270 (e : BitVec 2) : Statement (.len270 e) := and_mask 0x038 _ 7 (by decide)
theorem len271 (e : BitVec 2) : Statement (.len271 e) := and_mask 0x078 _ 7 (by decide)
theorem len272 (e : BitVec 2) : Statement (.len272 e) := and_mask 0x004 _ 7 (by decide)
theorem len273 (e : BitVec 3) : Statement (.len273 e) := and_mask 0x044 _ 7 (by decide)
theorem len274 (e : BitVec 3) : Statement (.len274 e) := and_mask 0x024 _ 7 (by decide)
theorem len275 (e : BitVec 3) : Statement (.len275 e) := and_mask 0x064 _ 7 (by decide)
theorem len276 (e : BitVec 3) : Statement (.len276 e) := and_mask 0x014 _ 7 (by decide)
theorem len277 (e : BitVec 4) : Statement (.len277 e) := and_mask 0x054 _ 7 (by decide)
theorem len278 (e : BitVec 4) : Statement (.len278 e) := and_mask 0x034 _ 7 (by decide)
theorem len279 (e : BitVec 4) : Statement (.len279 e) := and_mask 0x074 _ 7 (by decide)
theorem len280 (e : BitVec 4) : Statement (.len280 e) := and_mask 0x003 _ 8 (by decide)
theorem len281 (e : BitVec 5) : Statement (.len281 e) := and_mask 0x083 _ 8 (by decide)
theorem len282 (e : BitVec 5) : Statement (.len282 e) := and_mask 0x043 _ 8 (by decide)
theorem len283 (e : BitVec 5) : Statement (.len283 e) := and_mask 0x0C3 _ 8 (by decide)
theorem len284 (e : BitVec 5) : Statement (.len284 e) := and_mask 0x023 _ 8 (by decide)
theorem len285 : Statement .len285 := rfl
theorem dist0 : Statement .dist0 := rfl
theorem dist1 : Statement .dist1 := rfl
theorem dist2 : Statement .dist2 := rfl
theorem dist3 : Statement .dist3 := rfl
theorem dist4 (x : BitVec 1) : Statement (.dist4 x) := and_mask 0x04 _ 5 (by decide)
theorem dist5 (x : BitVec 1) : Statement (.dist5 x) := and_mask 0x14 _ 5 (by decide)
theorem dist6 (x : BitVec 2) : Statement (.dist6 x) := and_mask 0x0C _ 5 (by decide)
theorem dist7 (x : BitVec 2) : Statement (.dist7 x) := and_mask 0x1C _ 5 (by decide)
theorem dist8 (x : BitVec 3) : Statement (.dist8 x) := and_mask 0x02 _ 5 (by decide)
theorem dist9 (x : BitVec 3) : Statement (.dist9 x) := and_mask 0x12 _ 5 (by decide)
theorem dist10 (x : BitVec 4) : Statement (.dist10 x) := and_mask 0x0A _ 5 (by decide)
theorem dist11 (x : BitVec 4) : Statement (.dist11 x) := and_mask 0x1A _ 5 (by decide)
theorem dist12 (x : BitVec 5) : Statement (.dist12 x) := and_mask 0x06 _ 5 (by decide)
theorem dist13 (x : BitVec 5) : Statement (.dist13 x) := and_mask 0x16 _ 5 (by decide)
theorem dist14 (x : BitVec 6) : Statement (.dist14 x) := and_mask 0x0E _ 5 (by decide)
theorem dist15 (x : BitVec 6) : Statement (.dist15 x) := and_mask 0x1E _ 5 (by decide)
theorem dist16 (x : BitVec 7) : Statement (.dist16 x) := and_mask 0x01 _ 5 (by decide)
theorem dist17 (x : BitVec 7) : Statement (.dist17 x) := and_mask 0x11 _ 5 (by decide)
theorem dist18 (x : BitVec 8) : Statement (.dist18 x) := and_mask 0x09 _ 5 (by decide)
theorem dist19 (x : BitVec 8) : Statement (.dist19 x) := and_mask 0x19 _ 5 (by decide)
theorem dist20 (x : BitVec 9) : Statement (.dist20 x) := and_mask 0x05 _ 5 (by decide)
theorem dist21 (x : BitVec 9) : Statement (.dist21 x) := and_mask 0x15 _ 5 (by decide)
theorem dist22 (x : BitVec 10) : Statement (.dist22 x) := and_mask 0x0D _ 5 (by decide)
theorem dist23 (x : BitVec 10) : Statement (.dist23 x) := and_mask 0x1D _ 5 (by decide)
theorem dist24 (x : BitVec 11) : Statement (.dist24 x) := and_mask 0x03 _ 5 (by decide)
theorem dist25 (x : BitVec 11) : Statement (.dist25 x) := and_mask 0x13 _ 5 (by decide)
theorem dist26 (x : BitVec 12) : Statement (.dist26 x) := and_mask 0x0B _ 5 (by decide)
theorem dist27 (x : BitVec 12) : Statement (.dist27 x) := and_mask 0x1B _ 5 (by decide)
theorem dist28 (x : BitVec 13) : Statement (.dist28 x) := and_mask 0x07 _ 5 (by decide)
theorem dist29 (x : BitVec 13) : Statement (.dist29 x) := and_mask 0x17 _ 5 (by decide)
theorem reservedDist30 : Statement .reservedDist30 := rfl
theorem reservedDist31 : Statement .reservedDist31 := rfl
theorem blkStored (f : BitVec 1) : Statement (.blkStored f) := (by decide : ∀ f : BitVec 1, (encode (.blkStored f)).word &&& 0x6 = 0x0) f
theorem blkFixed (f : BitVec 1) : Statement (.blkFixed f) := (by decide : ∀ f : BitVec 1, (encode (.blkFixed f)).word &&& 0x6 = 0x2) f
theorem blkDynamic (f : BitVec 1) : Statement (.blkDynamic f) := (by decide : ∀ f : BitVec 1, (encode (.blkDynamic f)).word &&& 0x6 = 0x4) f
theorem blkReserved (f : BitVec 1) : Statement (.blkReserved f) := (by decide : ∀ f : BitVec 1, (encode (.blkReserved f)).word &&& 0x6 = 0x6) f
theorem storedBody (len : BitVec 16) (nlen : BitVec 16) : Statement (.storedBody len nlen) := by
  have h1 := len.isLt
  have h2 := nlen.isLt
  have e1 : (len.toNat + nlen.toNat * 2 ^ 16) % 2 ^ 16 = len.toNat := by omega
  have e2 : (len.toNat + nlen.toNat * 2 ^ 16) / 2 ^ 16 = nlen.toNat := by omega
  simp only [Statement, encode, row, lenNlenOk, e1, e2, beq_iff_eq]
  rw [Nat.and_two_pow_sub_one_eq_mod _ 16, Nat.mod_eq_of_lt (Nat.xor_lt_two_pow h1 h2)]
  have hx : (len ^^^ nlen).toNat = len.toNat ^^^ nlen.toNat := BitVec.toNat_xor ..
  rw [← hx]
  constructor
  · intro h
    have : len ^^^ nlen = 0xFFFF#16 := BitVec.eq_of_toNat_eq (by simpa using h)
    rw [← this, ← BitVec.xor_assoc, BitVec.xor_self, BitVec.zero_xor]
  · intro h
    rw [← h, ← BitVec.xor_assoc, BitVec.xor_self, BitVec.zero_xor]
    rfl
theorem gzhdr (flg : Byte) (mtime : BitVec 32) (xfl : Byte) (os : Byte) : Statement (.gzhdr flg mtime xfl os) := by
  have e : gzMagic + flg.toNat * 2 ^ 24 + mtime.toNat * 2 ^ 32 + xfl.toNat * 2 ^ 64 + os.toNat * 2 ^ 72 =
      0x088B1F + (flg.toNat + mtime.toNat * 2 ^ 8 + xfl.toNat * 2 ^ 40 + os.toNat * 2 ^ 48) * 2 ^ 24 := by
    simp only [gzMagic]; ring
  simp only [Statement, encode, row, e]
  exact and_mask _ _ 24 (by decide)
theorem gzoptFextra : Statement .gzoptFextra := rfl
theorem gzoptFname : Statement .gzoptFname := rfl
theorem gzoptFcomment : Statement .gzoptFcomment := rfl
theorem gzoptFhcrc : Statement .gzoptFhcrc := rfl
theorem gzftr (crc : Word32) (size : Word32) : Statement (.gzftr crc size) := Nat.and_zero _
theorem cmdNone : Statement .cmdNone := rfl
theorem compress : Statement .compress := rfl
theorem decompress : Statement .decompress := rfl
theorem cmdReserved : Statement .cmdReserved := rfl
theorem bwInit : Statement .bwInit := rfl
theorem bwWritebits (value : Nat) (n : Nat) : Statement (.bwWritebits value n) := and_mask 0x11 _ 8 (by decide)
theorem bwAlign : Statement .bwAlign := rfl
theorem bwAppendbyte (b : Byte) : Statement (.bwAppendbyte b) := and_mask 0x13 _ 8 (by decide)
theorem brInit (src : List Byte) : Statement (.brInit src) := and_mask 0x20 _ 8 (by decide)
theorem brReadbits (n : Nat) : Statement (.brReadbits n) := and_mask 0x21 _ 8 (by decide)
theorem brPeekbits (n : Nat) : Statement (.brPeekbits n) := and_mask 0x22 _ 8 (by decide)
theorem brAlign : Statement .brAlign := rfl
theorem brSkipbits (n : Nat) : Statement (.brSkipbits n) := and_mask 0x24 _ 8 (by decide)
theorem crcInit : Statement .crcInit := rfl
theorem crcUpdate (b : Byte) : Statement (.crcUpdate b) := and_mask 0x31 _ 8 (by decide)
theorem crcFinal : Statement .crcFinal := rfl
theorem heLitlen (sym : Nat) : Statement (.heLitlen sym) := and_mask 0x40 _ 8 (by decide)
theorem heDist (d : Nat) : Statement (.heDist d) := and_mask 0x41 _ 8 (by decide)
theorem hdLitlen : Statement .hdLitlen := rfl
theorem hdDist : Statement .hdDist := rfl
theorem tkInsert (c : Nat) : Statement (.tkInsert c) := and_mask 0x60 _ 8 (by decide)
theorem tkFindmatch (q : Nat) : Statement (.tkFindmatch q) := and_mask 0x61 _ 8 (by decide)
theorem tkTokenize : Statement .tkTokenize := rfl
theorem encBlock : Statement .encBlock := rfl
theorem encLiteral (b : Byte) : Statement (.encLiteral b) := and_mask 0x71 _ 8 (by decide)
theorem encMatch (len : Nat) (dist : Nat) : Statement (.encMatch len dist) := and_mask 0x72 _ 8 (by decide)
theorem encEob : Statement .encEob := rfl
theorem decInflate : Statement .decInflate := rfl
theorem decBlkhdr : Statement .decBlkhdr := rfl
theorem decStored : Statement .decStored := rfl
theorem decFixed : Statement .decFixed := rfl
theorem decCopy (len : Nat) (dist : Nat) : Statement (.decCopy len dist) := and_mask 0x84 _ 8 (by decide)
theorem gzWritehdr : Statement .gzWritehdr := rfl
theorem gzWriteftr : Statement .gzWriteftr := rfl
theorem gzParsehdr : Statement .gzParsehdr := rfl
theorem gzCheckftr : Statement .gzCheckftr := rfl
theorem lit00 : Statement .lit00 := rfl
theorem lit01 : Statement .lit01 := rfl
theorem lit02 : Statement .lit02 := rfl
theorem lit03 : Statement .lit03 := rfl
theorem lit04 : Statement .lit04 := rfl
theorem lit05 : Statement .lit05 := rfl
theorem lit06 : Statement .lit06 := rfl
theorem lit07 : Statement .lit07 := rfl
theorem lit08 : Statement .lit08 := rfl
theorem lit09 : Statement .lit09 := rfl
theorem lit0A : Statement .lit0A := rfl
theorem lit0B : Statement .lit0B := rfl
theorem lit0C : Statement .lit0C := rfl
theorem lit0D : Statement .lit0D := rfl
theorem lit0E : Statement .lit0E := rfl
theorem lit0F : Statement .lit0F := rfl
theorem lit10 : Statement .lit10 := rfl
theorem lit11 : Statement .lit11 := rfl
theorem lit12 : Statement .lit12 := rfl
theorem lit13 : Statement .lit13 := rfl
theorem lit14 : Statement .lit14 := rfl
theorem lit15 : Statement .lit15 := rfl
theorem lit16 : Statement .lit16 := rfl
theorem lit17 : Statement .lit17 := rfl
theorem lit18 : Statement .lit18 := rfl
theorem lit19 : Statement .lit19 := rfl
theorem lit1A : Statement .lit1A := rfl
theorem lit1B : Statement .lit1B := rfl
theorem lit1C : Statement .lit1C := rfl
theorem lit1D : Statement .lit1D := rfl
theorem lit1E : Statement .lit1E := rfl
theorem lit1F : Statement .lit1F := rfl
theorem lit20 : Statement .lit20 := rfl
theorem lit21 : Statement .lit21 := rfl
theorem lit22 : Statement .lit22 := rfl
theorem lit23 : Statement .lit23 := rfl
theorem lit24 : Statement .lit24 := rfl
theorem lit25 : Statement .lit25 := rfl
theorem lit26 : Statement .lit26 := rfl
theorem lit27 : Statement .lit27 := rfl
theorem lit28 : Statement .lit28 := rfl
theorem lit29 : Statement .lit29 := rfl
theorem lit2A : Statement .lit2A := rfl
theorem lit2B : Statement .lit2B := rfl
theorem lit2C : Statement .lit2C := rfl
theorem lit2D : Statement .lit2D := rfl
theorem lit2E : Statement .lit2E := rfl
theorem lit2F : Statement .lit2F := rfl
theorem lit30 : Statement .lit30 := rfl
theorem lit31 : Statement .lit31 := rfl
theorem lit32 : Statement .lit32 := rfl
theorem lit33 : Statement .lit33 := rfl
theorem lit34 : Statement .lit34 := rfl
theorem lit35 : Statement .lit35 := rfl
theorem lit36 : Statement .lit36 := rfl
theorem lit37 : Statement .lit37 := rfl
theorem lit38 : Statement .lit38 := rfl
theorem lit39 : Statement .lit39 := rfl
theorem lit3A : Statement .lit3A := rfl
theorem lit3B : Statement .lit3B := rfl
theorem lit3C : Statement .lit3C := rfl
theorem lit3D : Statement .lit3D := rfl
theorem lit3E : Statement .lit3E := rfl
theorem lit3F : Statement .lit3F := rfl
theorem lit40 : Statement .lit40 := rfl
theorem lit41 : Statement .lit41 := rfl
theorem lit42 : Statement .lit42 := rfl
theorem lit43 : Statement .lit43 := rfl
theorem lit44 : Statement .lit44 := rfl
theorem lit45 : Statement .lit45 := rfl
theorem lit46 : Statement .lit46 := rfl
theorem lit47 : Statement .lit47 := rfl
theorem lit48 : Statement .lit48 := rfl
theorem lit49 : Statement .lit49 := rfl
theorem lit4A : Statement .lit4A := rfl
theorem lit4B : Statement .lit4B := rfl
theorem lit4C : Statement .lit4C := rfl
theorem lit4D : Statement .lit4D := rfl
theorem lit4E : Statement .lit4E := rfl
theorem lit4F : Statement .lit4F := rfl
theorem lit50 : Statement .lit50 := rfl
theorem lit51 : Statement .lit51 := rfl
theorem lit52 : Statement .lit52 := rfl
theorem lit53 : Statement .lit53 := rfl
theorem lit54 : Statement .lit54 := rfl
theorem lit55 : Statement .lit55 := rfl
theorem lit56 : Statement .lit56 := rfl
theorem lit57 : Statement .lit57 := rfl
theorem lit58 : Statement .lit58 := rfl
theorem lit59 : Statement .lit59 := rfl
theorem lit5A : Statement .lit5A := rfl
theorem lit5B : Statement .lit5B := rfl
theorem lit5C : Statement .lit5C := rfl
theorem lit5D : Statement .lit5D := rfl
theorem lit5E : Statement .lit5E := rfl
theorem lit5F : Statement .lit5F := rfl
theorem lit60 : Statement .lit60 := rfl
theorem lit61 : Statement .lit61 := rfl
theorem lit62 : Statement .lit62 := rfl
theorem lit63 : Statement .lit63 := rfl
theorem lit64 : Statement .lit64 := rfl
theorem lit65 : Statement .lit65 := rfl
theorem lit66 : Statement .lit66 := rfl
theorem lit67 : Statement .lit67 := rfl
theorem lit68 : Statement .lit68 := rfl
theorem lit69 : Statement .lit69 := rfl
theorem lit6A : Statement .lit6A := rfl
theorem lit6B : Statement .lit6B := rfl
theorem lit6C : Statement .lit6C := rfl
theorem lit6D : Statement .lit6D := rfl
theorem lit6E : Statement .lit6E := rfl
theorem lit6F : Statement .lit6F := rfl
theorem lit70 : Statement .lit70 := rfl
theorem lit71 : Statement .lit71 := rfl
theorem lit72 : Statement .lit72 := rfl
theorem lit73 : Statement .lit73 := rfl
theorem lit74 : Statement .lit74 := rfl
theorem lit75 : Statement .lit75 := rfl
theorem lit76 : Statement .lit76 := rfl
theorem lit77 : Statement .lit77 := rfl
theorem lit78 : Statement .lit78 := rfl
theorem lit79 : Statement .lit79 := rfl
theorem lit7A : Statement .lit7A := rfl
theorem lit7B : Statement .lit7B := rfl
theorem lit7C : Statement .lit7C := rfl
theorem lit7D : Statement .lit7D := rfl
theorem lit7E : Statement .lit7E := rfl
theorem lit7F : Statement .lit7F := rfl
theorem lit80 : Statement .lit80 := rfl
theorem lit81 : Statement .lit81 := rfl
theorem lit82 : Statement .lit82 := rfl
theorem lit83 : Statement .lit83 := rfl
theorem lit84 : Statement .lit84 := rfl
theorem lit85 : Statement .lit85 := rfl
theorem lit86 : Statement .lit86 := rfl
theorem lit87 : Statement .lit87 := rfl
theorem lit88 : Statement .lit88 := rfl
theorem lit89 : Statement .lit89 := rfl
theorem lit8A : Statement .lit8A := rfl
theorem lit8B : Statement .lit8B := rfl
theorem lit8C : Statement .lit8C := rfl
theorem lit8D : Statement .lit8D := rfl
theorem lit8E : Statement .lit8E := rfl
theorem lit8F : Statement .lit8F := rfl
theorem lit90 : Statement .lit90 := rfl
theorem lit91 : Statement .lit91 := rfl
theorem lit92 : Statement .lit92 := rfl
theorem lit93 : Statement .lit93 := rfl
theorem lit94 : Statement .lit94 := rfl
theorem lit95 : Statement .lit95 := rfl
theorem lit96 : Statement .lit96 := rfl
theorem lit97 : Statement .lit97 := rfl
theorem lit98 : Statement .lit98 := rfl
theorem lit99 : Statement .lit99 := rfl
theorem lit9A : Statement .lit9A := rfl
theorem lit9B : Statement .lit9B := rfl
theorem lit9C : Statement .lit9C := rfl
theorem lit9D : Statement .lit9D := rfl
theorem lit9E : Statement .lit9E := rfl
theorem lit9F : Statement .lit9F := rfl
theorem litA0 : Statement .litA0 := rfl
theorem litA1 : Statement .litA1 := rfl
theorem litA2 : Statement .litA2 := rfl
theorem litA3 : Statement .litA3 := rfl
theorem litA4 : Statement .litA4 := rfl
theorem litA5 : Statement .litA5 := rfl
theorem litA6 : Statement .litA6 := rfl
theorem litA7 : Statement .litA7 := rfl
theorem litA8 : Statement .litA8 := rfl
theorem litA9 : Statement .litA9 := rfl
theorem litAA : Statement .litAA := rfl
theorem litAB : Statement .litAB := rfl
theorem litAC : Statement .litAC := rfl
theorem litAD : Statement .litAD := rfl
theorem litAE : Statement .litAE := rfl
theorem litAF : Statement .litAF := rfl
theorem litB0 : Statement .litB0 := rfl
theorem litB1 : Statement .litB1 := rfl
theorem litB2 : Statement .litB2 := rfl
theorem litB3 : Statement .litB3 := rfl
theorem litB4 : Statement .litB4 := rfl
theorem litB5 : Statement .litB5 := rfl
theorem litB6 : Statement .litB6 := rfl
theorem litB7 : Statement .litB7 := rfl
theorem litB8 : Statement .litB8 := rfl
theorem litB9 : Statement .litB9 := rfl
theorem litBA : Statement .litBA := rfl
theorem litBB : Statement .litBB := rfl
theorem litBC : Statement .litBC := rfl
theorem litBD : Statement .litBD := rfl
theorem litBE : Statement .litBE := rfl
theorem litBF : Statement .litBF := rfl
theorem litC0 : Statement .litC0 := rfl
theorem litC1 : Statement .litC1 := rfl
theorem litC2 : Statement .litC2 := rfl
theorem litC3 : Statement .litC3 := rfl
theorem litC4 : Statement .litC4 := rfl
theorem litC5 : Statement .litC5 := rfl
theorem litC6 : Statement .litC6 := rfl
theorem litC7 : Statement .litC7 := rfl
theorem litC8 : Statement .litC8 := rfl
theorem litC9 : Statement .litC9 := rfl
theorem litCA : Statement .litCA := rfl
theorem litCB : Statement .litCB := rfl
theorem litCC : Statement .litCC := rfl
theorem litCD : Statement .litCD := rfl
theorem litCE : Statement .litCE := rfl
theorem litCF : Statement .litCF := rfl
theorem litD0 : Statement .litD0 := rfl
theorem litD1 : Statement .litD1 := rfl
theorem litD2 : Statement .litD2 := rfl
theorem litD3 : Statement .litD3 := rfl
theorem litD4 : Statement .litD4 := rfl
theorem litD5 : Statement .litD5 := rfl
theorem litD6 : Statement .litD6 := rfl
theorem litD7 : Statement .litD7 := rfl
theorem litD8 : Statement .litD8 := rfl
theorem litD9 : Statement .litD9 := rfl
theorem litDA : Statement .litDA := rfl
theorem litDB : Statement .litDB := rfl
theorem litDC : Statement .litDC := rfl
theorem litDD : Statement .litDD := rfl
theorem litDE : Statement .litDE := rfl
theorem litDF : Statement .litDF := rfl
theorem litE0 : Statement .litE0 := rfl
theorem litE1 : Statement .litE1 := rfl
theorem litE2 : Statement .litE2 := rfl
theorem litE3 : Statement .litE3 := rfl
theorem litE4 : Statement .litE4 := rfl
theorem litE5 : Statement .litE5 := rfl
theorem litE6 : Statement .litE6 := rfl
theorem litE7 : Statement .litE7 := rfl
theorem litE8 : Statement .litE8 := rfl
theorem litE9 : Statement .litE9 := rfl
theorem litEA : Statement .litEA := rfl
theorem litEB : Statement .litEB := rfl
theorem litEC : Statement .litEC := rfl
theorem litED : Statement .litED := rfl
theorem litEE : Statement .litEE := rfl
theorem litEF : Statement .litEF := rfl
theorem litF0 : Statement .litF0 := rfl
theorem litF1 : Statement .litF1 := rfl
theorem litF2 : Statement .litF2 := rfl
theorem litF3 : Statement .litF3 := rfl
theorem litF4 : Statement .litF4 := rfl
theorem litF5 : Statement .litF5 := rfl
theorem litF6 : Statement .litF6 := rfl
theorem litF7 : Statement .litF7 := rfl
theorem litF8 : Statement .litF8 := rfl
theorem litF9 : Statement .litF9 := rfl
theorem litFA : Statement .litFA := rfl
theorem litFB : Statement .litFB := rfl
theorem litFC : Statement .litFC := rfl
theorem litFD : Statement .litFD := rfl
theorem litFE : Statement .litFE := rfl
theorem litFF : Statement .litFF := rfl
theorem eob : Statement .eob := rfl
theorem reservedLitlen286 : Statement .reservedLitlen286 := rfl
theorem reservedLitlen287 : Statement .reservedLitlen287 := rfl

end Sys2Proof.Laws.TableRow
end

