-- ==== Sys2Proof/Laws/State.lean ====
section
/-! SUPPORT. One lemma per field for each named update of the state, so that no proof unfolds one. -/

namespace Sys2Proof.Machine

/-! TAKING AN ERROR (R320): the seven fields it writes, and every other field as before. -/

@[simp] theorem raiseError_cmd (e : ErrKind) (s : State) : (raiseError e s).cmd = s.cmd := rfl
@[simp] theorem raiseError_status (e : ErrKind) (s : State) : (raiseError e s).status = statusError e := rfl
@[simp] theorem raiseError_inLen (e : ErrKind) (s : State) : (raiseError e s).inLen = s.inLen := rfl
@[simp] theorem raiseError_outLen (e : ErrKind) (s : State) : (raiseError e s).outLen = 0 := rfl
@[simp] theorem raiseError_inBuf (e : ErrKind) (s : State) : (raiseError e s).inBuf = s.inBuf := rfl
@[simp] theorem raiseError_out (e : ErrKind) (s : State) : (raiseError e s).out = Config.freeOut s.free := rfl
@[simp] theorem raiseError_n (e : ErrKind) (s : State) : (raiseError e s).n = s.n := rfl
@[simp] theorem raiseError_phase (e : ErrKind) (s : State) : (raiseError e s).phase = .idle := rfl
@[simp] theorem raiseError_bw (e : ErrKind) (s : State) : (raiseError e s).bw = s.bw := rfl
@[simp] theorem raiseError_br (e : ErrKind) (s : State) : (raiseError e s).br = s.br := rfl
@[simp] theorem raiseError_crc (e : ErrKind) (s : State) : (raiseError e s).crc = s.crc := rfl
@[simp] theorem raiseError_tk (e : ErrKind) (s : State) : (raiseError e s).tk = s.tk := rfl
@[simp] theorem raiseError_dec (e : ErrKind) (s : State) : (raiseError e s).dec = s.dec := rfl
@[simp] theorem raiseError_gz (e : ErrKind) (s : State) : (raiseError e s).gz = s.gz := rfl
@[simp] theorem raiseError_expect (e : ErrKind) (s : State) : (raiseError e s).expect = .nothing := rfl
@[simp] theorem raiseError_uops (e : ErrKind) (s : State) : (raiseError e s).uops = [] := rfl
@[simp] theorem raiseError_result (e : ErrKind) (s : State) : (raiseError e s).result = s.result := rfl
@[simp] theorem raiseError_free (e : ErrKind) (s : State) : (raiseError e s).free = s.free + 1 := rfl
@[simp] theorem raiseError_inbox (e : ErrKind) (s : State) : (raiseError e s).inbox = s.inbox := rfl

/-! `OUT` as a space (R60): the writer's buffer while `COMPRESS` runs, the stored bytes otherwise. -/

theorem State.outBytes_compressing {s : State} (h : s.phase.compressing = true) : s.outBytes = s.bw.buf := if_pos h

theorem State.outBytes_not_compressing {s : State} (h : s.phase.compressing = false) : s.outBytes = s.out := by
  rw [State.outBytes, h]; rfl

@[simp] theorem raiseError_outBytes (e : ErrKind) (s : State) : (raiseError e s).outBytes = Config.freeOut s.free := rfl
@[simp] theorem completeCommand_outBytes (s : State) : (completeCommand s).outBytes = s.out := rfl
@[simp] theorem startCommand_outBytes (s : State) : (startCommand s).outBytes = [] := by
  cases h : s.phase.compressing <;> simp [State.outBytes, startCommand, BW.empty, h]

/-- Completion leaves in `OUT` what the command built there (R261, R266). -/
@[simp] theorem finishCommand_outBytes (s : State) : (finishCommand s).outBytes = s.outBytes := rfl

/-! Completion with success (R266). -/

@[simp] theorem completeCommand_cmd (s : State) : (completeCommand s).cmd = s.cmd := rfl
@[simp] theorem completeCommand_status (s : State) : (completeCommand s).status = statusSuccess := rfl
@[simp] theorem completeCommand_inLen (s : State) : (completeCommand s).inLen = s.inLen := rfl
@[simp] theorem completeCommand_outLen (s : State) : (completeCommand s).outLen = s.out.length := rfl
@[simp] theorem completeCommand_inBuf (s : State) : (completeCommand s).inBuf = s.inBuf := rfl
@[simp] theorem completeCommand_out (s : State) : (completeCommand s).out = s.out := rfl
@[simp] theorem completeCommand_n (s : State) : (completeCommand s).n = s.n := rfl
@[simp] theorem completeCommand_phase (s : State) : (completeCommand s).phase = .idle := rfl
@[simp] theorem completeCommand_bw (s : State) : (completeCommand s).bw = s.bw := rfl
@[simp] theorem completeCommand_br (s : State) : (completeCommand s).br = s.br := rfl
@[simp] theorem completeCommand_crc (s : State) : (completeCommand s).crc = s.crc := rfl
@[simp] theorem completeCommand_tk (s : State) : (completeCommand s).tk = s.tk := rfl
@[simp] theorem completeCommand_dec (s : State) : (completeCommand s).dec = s.dec := rfl
@[simp] theorem completeCommand_gz (s : State) : (completeCommand s).gz = s.gz := rfl
@[simp] theorem completeCommand_expect (s : State) : (completeCommand s).expect = .nothing := rfl
@[simp] theorem completeCommand_uops (s : State) : (completeCommand s).uops = [] := rfl
@[simp] theorem completeCommand_result (s : State) : (completeCommand s).result = s.result := rfl
@[simp] theorem completeCommand_free (s : State) : (completeCommand s).free = s.free := rfl
@[simp] theorem completeCommand_inbox (s : State) : (completeCommand s).inbox = s.inbox := rfl

/-! Command start (R260). -/

@[simp] theorem startCommand_cmd (s : State) : (startCommand s).cmd = s.cmd := rfl
@[simp] theorem startCommand_status (s : State) : (startCommand s).status = statusBusy := rfl
@[simp] theorem startCommand_inLen (s : State) : (startCommand s).inLen = s.inLen := rfl
@[simp] theorem startCommand_outLen (s : State) : (startCommand s).outLen = 0 := rfl
@[simp] theorem startCommand_inBuf (s : State) : (startCommand s).inBuf = s.inBuf := rfl
@[simp] theorem startCommand_out (s : State) : (startCommand s).out = [] := rfl
@[simp] theorem startCommand_n (s : State) : (startCommand s).n = s.inLen := rfl
@[simp] theorem startCommand_phase (s : State) : (startCommand s).phase = s.phase := rfl
@[simp] theorem startCommand_bw (s : State) : (startCommand s).bw = BW.empty := rfl
@[simp] theorem startCommand_br (s : State) : (startCommand s).br = BR.init [] := rfl
@[simp] theorem startCommand_crc (s : State) : (startCommand s).crc = Config.crcInit := rfl
@[simp] theorem startCommand_tk (s : State) : (startCommand s).tk = ⟨[], [], 0, 0, []⟩ := rfl
@[simp] theorem startCommand_dec (s : State) : (startCommand s).dec = ⟨0, 0, 0⟩ := rfl
@[simp] theorem startCommand_gz (s : State) : (startCommand s).gz = ⟨0, 0, 0, 0, 0, 0⟩ := rfl
@[simp] theorem startCommand_expect (s : State) : (startCommand s).expect = .nothing := rfl
@[simp] theorem startCommand_uops (s : State) : (startCommand s).uops = [] := rfl
@[simp] theorem startCommand_result (s : State) : (startCommand s).result = .empty := rfl
@[simp] theorem startCommand_free (s : State) : (startCommand s).free = s.free := rfl
@[simp] theorem startCommand_inbox (s : State) : (startCommand s).inbox = s.inbox := rfl

/-! The decoder's part put back. -/

@[simp] theorem State.withInflater_cmd (s : State) (d : Inflater) : (s.withInflater d).cmd = s.cmd := rfl
@[simp] theorem State.withInflater_status (s : State) (d : Inflater) : (s.withInflater d).status = s.status := rfl
@[simp] theorem State.withInflater_inLen (s : State) (d : Inflater) : (s.withInflater d).inLen = s.inLen := rfl
@[simp] theorem State.withInflater_outLen (s : State) (d : Inflater) : (s.withInflater d).outLen = s.outLen := rfl
@[simp] theorem State.withInflater_inBuf (s : State) (d : Inflater) : (s.withInflater d).inBuf = s.inBuf := rfl
@[simp] theorem State.withInflater_out (s : State) (d : Inflater) : (s.withInflater d).out = d.out := rfl
@[simp] theorem State.withInflater_n (s : State) (d : Inflater) : (s.withInflater d).n = s.n := rfl
@[simp] theorem State.withInflater_phase (s : State) (d : Inflater) : (s.withInflater d).phase = s.phase := rfl
@[simp] theorem State.withInflater_bw (s : State) (d : Inflater) : (s.withInflater d).bw = s.bw := rfl
@[simp] theorem State.withInflater_br (s : State) (d : Inflater) : (s.withInflater d).br = d.br := rfl
@[simp] theorem State.withInflater_crc (s : State) (d : Inflater) : (s.withInflater d).crc = s.crc := rfl
@[simp] theorem State.withInflater_tk (s : State) (d : Inflater) : (s.withInflater d).tk = s.tk := rfl
@[simp] theorem State.withInflater_dec (s : State) (d : Inflater) : (s.withInflater d).dec = ⟨d.bfinal, d.btype, s.dec.len⟩ := rfl
@[simp] theorem State.withInflater_gz (s : State) (d : Inflater) : (s.withInflater d).gz = s.gz := rfl
@[simp] theorem State.withInflater_expect (s : State) (d : Inflater) : (s.withInflater d).expect = s.expect := rfl
@[simp] theorem State.withInflater_uops (s : State) (d : Inflater) : (s.withInflater d).uops = s.uops := rfl
@[simp] theorem State.withInflater_result (s : State) (d : Inflater) : (s.withInflater d).result = s.result := rfl
@[simp] theorem State.withInflater_free (s : State) (d : Inflater) : (s.withInflater d).free = s.free := rfl
@[simp] theorem State.withInflater_inbox (s : State) (d : Inflater) : (s.withInflater d).inbox = s.inbox := rfl

/-! Reset during operation (R341): every field but the model's own `inbox` and `free`. -/

@[simp] theorem hostReset_cmd (s : State) : (hostReset s).cmd = State.reset.cmd := rfl
@[simp] theorem hostReset_status (s : State) : (hostReset s).status = State.reset.status := rfl
@[simp] theorem hostReset_inLen (s : State) : (hostReset s).inLen = State.reset.inLen := rfl
@[simp] theorem hostReset_outLen (s : State) : (hostReset s).outLen = State.reset.outLen := rfl
@[simp] theorem hostReset_inBuf (s : State) : (hostReset s).inBuf = State.reset.inBuf := rfl
@[simp] theorem hostReset_out (s : State) : (hostReset s).out = State.reset.out := rfl
@[simp] theorem hostReset_n (s : State) : (hostReset s).n = State.reset.n := rfl
@[simp] theorem hostReset_phase (s : State) : (hostReset s).phase = State.reset.phase := rfl
@[simp] theorem hostReset_bw (s : State) : (hostReset s).bw = State.reset.bw := rfl
@[simp] theorem hostReset_br (s : State) : (hostReset s).br = State.reset.br := rfl
@[simp] theorem hostReset_crc (s : State) : (hostReset s).crc = State.reset.crc := rfl
@[simp] theorem hostReset_tk (s : State) : (hostReset s).tk = State.reset.tk := rfl
@[simp] theorem hostReset_dec (s : State) : (hostReset s).dec = State.reset.dec := rfl
@[simp] theorem hostReset_gz (s : State) : (hostReset s).gz = State.reset.gz := rfl
@[simp] theorem hostReset_expect (s : State) : (hostReset s).expect = State.reset.expect := rfl
@[simp] theorem hostReset_uops (s : State) : (hostReset s).uops = State.reset.uops := rfl
@[simp] theorem hostReset_result (s : State) : (hostReset s).result = State.reset.result := rfl
@[simp] theorem hostReset_free (s : State) : (hostReset s).free = s.free := rfl
@[simp] theorem hostReset_inbox (s : State) : (hostReset s).inbox = s.inbox := rfl

/-! The end of the header (R267). -/

@[simp] theorem enterInflate_cmd (s : State) : (enterInflate s).cmd = s.cmd := rfl
@[simp] theorem enterInflate_status (s : State) : (enterInflate s).status = s.status := rfl
@[simp] theorem enterInflate_inLen (s : State) : (enterInflate s).inLen = s.inLen := rfl
@[simp] theorem enterInflate_outLen (s : State) : (enterInflate s).outLen = s.outLen := rfl
@[simp] theorem enterInflate_inBuf (s : State) : (enterInflate s).inBuf = s.inBuf := rfl
@[simp] theorem enterInflate_out (s : State) : (enterInflate s).out = s.out := rfl
@[simp] theorem enterInflate_n (s : State) : (enterInflate s).n = s.n := rfl
@[simp] theorem enterInflate_phase (s : State) : (enterInflate s).phase = .dInflate := rfl
@[simp] theorem enterInflate_bw (s : State) : (enterInflate s).bw = s.bw := rfl
@[simp] theorem enterInflate_br (s : State) : (enterInflate s).br = s.br := rfl
@[simp] theorem enterInflate_crc (s : State) : (enterInflate s).crc = s.crc := rfl
@[simp] theorem enterInflate_tk (s : State) : (enterInflate s).tk = s.tk := rfl
@[simp] theorem enterInflate_dec (s : State) : (enterInflate s).dec = s.dec := rfl
@[simp] theorem enterInflate_gz (s : State) : (enterInflate s).gz = s.gz := rfl
@[simp] theorem enterInflate_expect (s : State) : (enterInflate s).expect = .blkhdr := rfl
@[simp] theorem enterInflate_uops (s : State) : (enterInflate s).uops = s.uops := rfl
@[simp] theorem enterInflate_result (s : State) : (enterInflate s).result = s.result := rfl
@[simp] theorem enterInflate_free (s : State) : (enterInflate s).free = s.free := rfl
@[simp] theorem enterInflate_inbox (s : State) : (enterInflate s).inbox = s.inbox := rfl

/-! The end of a block body (R230). -/

@[simp] theorem endBlock_cmd (s : State) : (endBlock s).cmd = s.cmd := by unfold endBlock; split <;> rfl
@[simp] theorem endBlock_status (s : State) : (endBlock s).status = s.status := by unfold endBlock; split <;> rfl
@[simp] theorem endBlock_inLen (s : State) : (endBlock s).inLen = s.inLen := by unfold endBlock; split <;> rfl
@[simp] theorem endBlock_outLen (s : State) : (endBlock s).outLen = s.outLen := by unfold endBlock; split <;> rfl
@[simp] theorem endBlock_inBuf (s : State) : (endBlock s).inBuf = s.inBuf := by unfold endBlock; split <;> rfl
@[simp] theorem endBlock_out (s : State) : (endBlock s).out = s.out := by unfold endBlock; split <;> rfl
@[simp] theorem endBlock_n (s : State) : (endBlock s).n = s.n := by unfold endBlock; split <;> rfl
@[simp] theorem endBlock_phase (s : State) : (endBlock s).phase = if s.dec.bfinal = 1 then .dFooter else s.phase := by unfold endBlock; split <;> rfl
@[simp] theorem endBlock_bw (s : State) : (endBlock s).bw = s.bw := by unfold endBlock; split <;> rfl
@[simp] theorem endBlock_br (s : State) : (endBlock s).br = s.br := by unfold endBlock; split <;> rfl
@[simp] theorem endBlock_crc (s : State) : (endBlock s).crc = s.crc := by unfold endBlock; split <;> rfl
@[simp] theorem endBlock_tk (s : State) : (endBlock s).tk = s.tk := by unfold endBlock; split <;> rfl
@[simp] theorem endBlock_dec (s : State) : (endBlock s).dec = s.dec := by unfold endBlock; split <;> rfl
@[simp] theorem endBlock_gz (s : State) : (endBlock s).gz = s.gz := by unfold endBlock; split <;> rfl
@[simp] theorem endBlock_expect (s : State) : (endBlock s).expect = if s.dec.bfinal = 1 then .gzftr else .blkhdr := by unfold endBlock; split <;> rfl
@[simp] theorem endBlock_uops (s : State) : (endBlock s).uops = s.uops := by unfold endBlock; split <;> rfl
@[simp] theorem endBlock_result (s : State) : (endBlock s).result = s.result := by unfold endBlock; split <;> rfl
@[simp] theorem endBlock_free (s : State) : (endBlock s).free = s.free := by unfold endBlock; split <;> rfl
@[simp] theorem endBlock_inbox (s : State) : (endBlock s).inbox = s.inbox := by unfold endBlock; split <;> rfl

/-! A unit operation taken off the sequencer's list. -/

@[simp] theorem startUop_cmd (w : Nat) (rest : List Nat) (s : State) : (startUop w rest s).cmd = s.cmd := rfl
@[simp] theorem startUop_status (w : Nat) (rest : List Nat) (s : State) : (startUop w rest s).status = s.status := rfl
@[simp] theorem startUop_inLen (w : Nat) (rest : List Nat) (s : State) : (startUop w rest s).inLen = s.inLen := rfl
@[simp] theorem startUop_outLen (w : Nat) (rest : List Nat) (s : State) : (startUop w rest s).outLen = s.outLen := rfl
@[simp] theorem startUop_inBuf (w : Nat) (rest : List Nat) (s : State) : (startUop w rest s).inBuf = s.inBuf := rfl
@[simp] theorem startUop_out (w : Nat) (rest : List Nat) (s : State) : (startUop w rest s).out = s.out := rfl
@[simp] theorem startUop_n (w : Nat) (rest : List Nat) (s : State) : (startUop w rest s).n = s.n := rfl
@[simp] theorem startUop_phase (w : Nat) (rest : List Nat) (s : State) : (startUop w rest s).phase = if s.busy then sequencePhase w s.phase else s.phase := rfl
@[simp] theorem startUop_bw (w : Nat) (rest : List Nat) (s : State) : (startUop w rest s).bw = s.bw := rfl
@[simp] theorem startUop_br (w : Nat) (rest : List Nat) (s : State) : (startUop w rest s).br = s.br := rfl
@[simp] theorem startUop_crc (w : Nat) (rest : List Nat) (s : State) : (startUop w rest s).crc = s.crc := rfl
@[simp] theorem startUop_tk (w : Nat) (rest : List Nat) (s : State) : (startUop w rest s).tk = s.tk := rfl
@[simp] theorem startUop_dec (w : Nat) (rest : List Nat) (s : State) : (startUop w rest s).dec = s.dec := rfl
@[simp] theorem startUop_gz (w : Nat) (rest : List Nat) (s : State) : (startUop w rest s).gz = s.gz := rfl
@[simp] theorem startUop_expect (w : Nat) (rest : List Nat) (s : State) : (startUop w rest s).expect = s.expect := rfl
@[simp] theorem startUop_uops (w : Nat) (rest : List Nat) (s : State) : (startUop w rest s).uops = rest := rfl
@[simp] theorem startUop_result (w : Nat) (rest : List Nat) (s : State) : (startUop w rest s).result = s.result := rfl
@[simp] theorem startUop_free (w : Nat) (rest : List Nat) (s : State) : (startUop w rest s).free = s.free := rfl
@[simp] theorem startUop_inbox (w : Nat) (rest : List Nat) (s : State) : (startUop w rest s).inbox = s.inbox := rfl

end Sys2Proof.Machine
end

