-- ==== Sys2Proof/Laws/Tokenizer.lean ====
section
/-! SUPPORT. What the tokenizer's operations do to its state (spec/43_lz77_tokenizer.md R192 to R197): the chains stay
canonical tables, the insertion cursor and the queue. -/

namespace Sys2Proof.Machine

/-- `HEAD` and `PREV` are canonical tables. -/
def TK.Wf (tk : TK) : Prop := tk.head.wf = true ∧ tk.prev.wf = true

theorem TK.start_wf (q : List Token) : (TK.start q).Wf := ⟨rfl, rfl⟩

theorem TK.insert_wf {tk : TK} (d : List Byte) (h : tk.Wf) : (tk.insert d).Wf := by
  unfold TK.insert
  simp only
  split
  · exact ⟨Cells.wf_put _ _ h.1, Cells.wf_assign _ _ h.2⟩
  · exact h

@[simp] theorem TK.ins_insert (d : List Byte) (tk : TK) : (tk.insert d).ins = tk.ins + 1 := by
  unfold TK.insert
  simp only
  split <;> rfl

@[simp] theorem TK.queue_insert (d : List Byte) (tk : TK) : (tk.insert d).queue = tk.queue := by
  unfold TK.insert
  simp only
  split <;> rfl

@[simp] theorem TK.p_insert (d : List Byte) (tk : TK) : (tk.insert d).p = tk.p := by
  unfold TK.insert
  simp only
  split <;> rfl

theorem TK.insertMany_wf {tk : TK} (d : List Byte) (k : Nat) (h : tk.Wf) : (tk.insertMany d k).Wf := by
  induction k generalizing tk with
  | zero => exact h
  | succ k ih => exact ih (TK.insert_wf d h)

@[simp] theorem TK.ins_insertMany (d : List Byte) (tk : TK) (k : Nat) : (tk.insertMany d k).ins = tk.ins + k := by
  induction k generalizing tk with
  | zero => rfl
  | succ k ih => rw [TK.insertMany, ih, TK.ins_insert]; omega

@[simp] theorem TK.queue_insertMany (d : List Byte) (tk : TK) (k : Nat) : (tk.insertMany d k).queue = tk.queue := by
  induction k generalizing tk with
  | zero => rfl
  | succ k ih => rw [TK.insertMany, ih, TK.queue_insert]

@[simp] theorem TK.p_insertMany (d : List Byte) (tk : TK) (k : Nat) : (tk.insertMany d k).p = tk.p := by
  induction k generalizing tk with
  | zero => rfl
  | succ k ih => rw [TK.insertMany, ih, TK.p_insert]

/-- Insertions in a row. -/
theorem TK.insertMany_add (d : List Byte) (tk : TK) (a b : Nat) :
    tk.insertMany d (a + b) = (tk.insertMany d a).insertMany d b := by
  induction a generalizing tk with
  | zero => simp [TK.insertMany]
  | succ a ih => rw [show a + 1 + b = a + b + 1 by omega, TK.insertMany, ih, TK.insertMany]

@[simp] theorem TK.queue_insertUpto (d : List Byte) (q : Nat) (tk : TK) : (tk.insertUpto d q).queue = tk.queue :=
  TK.queue_insertMany d tk _

@[simp] theorem TK.p_insertUpto (d : List Byte) (q : Nat) (tk : TK) : (tk.insertUpto d q).p = tk.p :=
  TK.p_insertMany d tk _

/-- `insert_upto(q)` leaves the cursor at `q`, or where it was if it was further (R192). -/
@[simp] theorem TK.ins_insertUpto (d : List Byte) (q : Nat) (tk : TK) : (tk.insertUpto d q).ins = max tk.ins q := by
  rw [TK.insertUpto, TK.ins_insertMany]
  omega

theorem TK.insertUpto_wf {tk : TK} (d : List Byte) (q : Nat) (h : tk.Wf) : (tk.insertUpto d q).Wf :=
  TK.insertMany_wf d _ h

/-- Where no position from `q` on is in the chains, a search starts at the head of its chain (R193). -/
@[simp] theorem firstBelow_zero (prev : Cells Nat) (q : Nat) (c : Option Nat) : firstBelow prev q 0 c = c := rfl

/-- A head below `q` is where the search starts, whatever else is in the chains. -/
theorem firstBelow_of_lt (prev : Cells Nat) {q c : Nat} (fuel : Nat) (h : c < q) : firstBelow prev q fuel (some c) = some c := by
  cases fuel
  · rfl
  · rw [firstBelow, if_pos h]

/-- What a chain whose entries fall gives a search at `q`: no entry at all, or one below `q` (R353). -/
theorem firstBelow_lt {prev : Cells Nat} {q : Nat} (hfall : ∀ c c', prev.get c = some c' → c' < c) {fuel c r : Nat}
    (hc : c < q + fuel) (hr : firstBelow prev q fuel (some c) = some r) : r < q := by
  induction fuel generalizing c with
  | zero => cases hr; exact hc
  | succ fuel ih =>
    rw [firstBelow] at hr
    split at hr
    · cases hr; assumption
    · cases hp : prev.get c with
      | none => rw [hp] at hr; cases fuel <;> cases hr
      | some c' =>
        rw [hp] at hr
        have := hfall c c' hp
        exact ih (by omega) hr

/-- The state a search leaves has every position below `q` inserted and is otherwise as before (R193). -/
@[simp] theorem findMatch_tk (d : List Byte) (tk : TK) (q : Nat) : (findMatch d tk q).2 = tk.insertUpto d q := rfl

/-- What one iteration of R196's loop can do: a literal, a match found at `p`, or a literal because the match at `p + 1` is
strictly longer. -/
theorem tokenizeStep_cases (d : List Byte) (tk : TK) :
    (∃ tk', (tk' = tk.insertUpto d tk.p ∨ tk' = (tk.insertUpto d tk.p).insertUpto d (tk.p + 1)) ∧
        tokenizeStep d tk = tk'.emit (.lit (byteAt d tk.p)) 1) ∨
      ∃ tk' m, (tk' = tk.insertUpto d tk.p ∨ tk' = (tk.insertUpto d tk.p).insertUpto d (tk.p + 1)) ∧
        (findMatch d tk tk.p).1 = some m ∧ tokenizeStep d tk = tk'.emit (.mtch m.1 m.2) m.1 := by
  unfold tokenizeStep
  simp only
  split
  · exact .inl ⟨_, .inl rfl, rfl⟩
  · rename_i m hm
    by_cases hp : tk.p + 1 < d.length
    · simp only [hp, if_true]
      split
      · split
        · exact .inl ⟨_, .inr rfl, rfl⟩
        · exact .inr ⟨_, m, .inr rfl, hm, rfl⟩
      · exact .inr ⟨_, m, .inr rfl, hm, rfl⟩
    · simp only [hp, if_false]
      exact .inr ⟨_, m, .inl rfl, hm, rfl⟩

theorem tokenizeStep_wf {tk : TK} (d : List Byte) (h : tk.Wf) : (tokenizeStep d tk).Wf := by
  have h1 := TK.insertUpto_wf d tk.p h
  have h2 := TK.insertUpto_wf d (tk.p + 1) h1
  rcases tokenizeStep_cases d tk with ⟨tk', ht, he⟩ | ⟨tk', m, ht, -, he⟩ <;> rw [he] <;> rcases ht with rfl | rfl
  · exact h1
  · exact h2
  · exact h1
  · exact h2

theorem tokenizeLoop_wf {tk : TK} (d : List Byte) (fuel : Nat) (h : tk.Wf) : (tokenizeLoop d tk fuel).Wf := by
  induction fuel generalizing tk with
  | zero => exact h
  | succ fuel ih =>
    unfold tokenizeLoop
    split
    · exact ih (tokenizeStep_wf d h)
    · exact h

/-- `TK.TOKENIZE` leaves canonical tables, whatever it found (R196). -/
theorem TK.tokenize_wf (d : List Byte) (tk : TK) : (tk.tokenize d).Wf :=
  TK.insertUpto_wf d _ (tokenizeLoop_wf d _ (TK.start_wf _))

end Sys2Proof.Machine
end

