-- ==== Sys2Proof/Tests/Slice0.lean ====
section
/-! SUPPORT. The model's own tests: an ill-formed term for every check of `WellFormed`; words written out from
spec/30_encoding.md, decoded; single steps against the worked examples of the rules and of spec/95_test_vectors.md; and for
every statement with hypotheses a concrete state and operands that meet them, at the boundary of each clause. -/

namespace Sys2Proof.Tests

open Sys2Proof.Machine

/-! ### Small states -/

/-- A reader on `src` at bit `pos`, with the rest of the current byte loaded. -/
def reading (src : List Byte) (pos : Nat) : State :=
  { State.reset with br := ⟨src, pos, (8 - pos % 8) % 8⟩ }

/-- A decoder on `src` at bit `pos` that has produced `out`. -/
def decoding (src : List Byte) (pos : Nat) (out : List Byte) : State :=
  { State.reset with
    status := statusBusy
    phase := .dInflate
    expect := .litlen
    br := ⟨src, pos, (8 - pos % 8) % 8⟩
    out := out }

/-- A core whose latched input is `d`. -/
def holding (d : List Byte) : State :=
  { State.reset with inBuf := Memory.writeBytes [] 0 d, inLen := d.length, n := d.length }

/-- A writer with these registers. -/
def writing (buf : List Byte) (acc : Byte) (cnt : Nat) : State := { State.reset with bw := ⟨buf, acc, cnt⟩ }

/-- What the next state of an outcome shows. -/
def nextIs {α : Type} [DecidableEq α] (r : StepResult) (view : State → α) (v : α) : Bool :=
  match r with
  | .next t => view t = v
  | .fault _ => false
  | .refused _ => false

theorem exists_of_nextIs {α : Type} [DecidableEq α] {r : StepResult} {view : State → α} {v : α} (h : nextIs r view v = true) :
    ∃ t, r = .next t ∧ view t = v := by
  cases r with
  | next t => exact ⟨t, rfl, of_decide_eq_true h⟩
  | fault f => cases h
  | refused f => cases h

/-! ### Well-formedness: one ill-formed term per check -/

theorem test_illFormed_writebits : WellFormed (.bwWritebits 0 17) = false := by decide
theorem test_illFormed_readbits : WellFormed (.brReadbits 17) = false := by decide
theorem test_illFormed_peekbits : WellFormed (.brPeekbits 17) = false := by decide
theorem test_illFormed_skipbits : WellFormed (.brSkipbits 17) = false := by decide
theorem test_illFormed_heLitlen : WellFormed (.heLitlen 288) = false := by decide
theorem test_illFormed_heDist : WellFormed (.heDist 32) = false := by decide
theorem test_illFormed_match_short : WellFormed (.encMatch 2 1) = false := by decide
theorem test_illFormed_match_long : WellFormed (.encMatch 259 1) = false := by decide
theorem test_illFormed_match_zero_distance : WellFormed (.encMatch 3 0) = false := by decide
theorem test_illFormed_match_far : WellFormed (.encMatch 3 32769) = false := by decide
theorem test_illFormed_copy_short : WellFormed (.decCopy 2 1) = false := by decide
theorem test_illFormed_copy_far : WellFormed (.decCopy 258 32769) = false := by decide
theorem test_illFormed_init (src : List Byte) (h : src.length = 2 ^ 32) : WellFormed (.brInit src) = false := by
  simp [WellFormed, h]
theorem test_wellFormed_edges : WellFormed (.bwWritebits 0 16) = true ∧ WellFormed (.heLitlen 287) = true ∧
    WellFormed (.heDist 31) = true ∧ WellFormed (.encMatch 3 1) = true ∧ WellFormed (.encMatch 258 32768) = true := by
  decide

/-! ### Decoding: words written out bit by bit from the encodings (stream order, first bit rightmost here) -/

/-- `LIT 0x61`: code `10010001`, first bit first (R101). -/
theorem test_decode_literal : decode .litlen 0b10001001 = .ok .lit61 := by decide
/-- `LIT 0x8F`, the last 8-bit code `10111111`; `LIT 0x90`, the first 9-bit code `110010000` (V20). -/
theorem test_decode_literal_edges : decode .litlen 0b011111101 = .ok .lit8F ∧ decode .litlen 0b000010011 = .ok .lit90 := by
  decide
/-- `EOB`: `0000000`, whatever follows it. -/
theorem test_decode_eob : decode .litlen 0b110000000 = .ok .eob := by decide
/-- Symbol 283, code `11000011`, extra `27` sent as `1 1 0 1 1` (R213's example). -/
theorem test_decode_length : decode .litlen (0b11000011 + 27 * 2 ^ 8) = .ok (.len283 27) := by decide +kernel
/-- Symbols 286 and 287: `11000110` and `11000111`. -/
theorem test_decode_reserved_litlen : decode .litlen 0b01100011 = .ok .reservedLitlen286 ∧
    decode .litlen 0b11100011 = .ok .reservedLitlen287 := by decide
/-- Distance symbol 4 with extra bit 1: `00100 1` (R213's example); symbol 30: `11110`. -/
theorem test_decode_distance : decode .dist 0b100100 = .ok (.dist4 1) ∧ decode .dist 0b01111 = .ok .reservedDist30 := by
  decide
/-- First byte `03`, `01`, `05` of a payload (R231's examples). -/
theorem test_decode_block_header : decode .blkhdr 0b011 = .ok (.blkFixed 1) ∧ decode .blkhdr 0b001 = .ok (.blkStored 1) ∧
    decode .blkhdr 0b101 = .ok (.blkDynamic 1) ∧ decode .blkhdr 0b110 = .ok (.blkReserved 0) := by decide
/-- `03 00 FC FF` (R237's example). -/
theorem test_decode_stored : decode .stored 0xFFFC0003 = .ok (.storedBody 3 0xFFFC) := by decide
/-- `1F 8B 08 00 00 00 00 00 00 FF` (R95); `1F 8B 07` is no header (R269). -/
theorem test_decode_header : decode .gzhdr 0xFF000000000000088B1F = .ok (.gzhdr 0 0 0 0xFF) ∧
    decode .gzhdr 0x078B1F = .error .badMagic := by decide
/-- `FLG` bits in R93's order of skipping. -/
theorem test_decode_optional : decode .gzopt 0x1F = .ok .gzoptFextra ∧ decode .gzopt 0x1B = .ok .gzoptFname ∧
    decode .gzopt 0x13 = .ok .gzoptFcomment ∧ decode .gzopt 0xE3 = .ok .gzoptFhcrc ∧
    decode .gzopt 0xE1 = .error .noOptionalField := by decide
/-- `43 BE B7 E8 01 00 00 00` (R264's example). -/
theorem test_decode_footer : decode .gzftr 0x00000001E8B7BE43 = .ok (.gzftr 0xE8B7BE43 1) := by decide
theorem test_decode_command : decode .cmd 0b01 = .ok .compress ∧ decode .cmd 0b11 = .ok .cmdReserved := by decide
theorem test_decode_uop : decode .uop 0x62 = .ok .tkTokenize ∧ decode .uop 0x84 = .ok (.decCopy 3 1) ∧
    decode .uop 0x14 = .error .uopCode := by decide

/-! ### Single steps against the rules' examples -/

/-- V1: `WRITEBITS(0x89, 8)` from `acc = 0b011, cnt = 3`. -/
theorem test_writebits : nextIs (exec (.bwWritebits 0x89 8) (writing [] 0b011 3)) (·.bw) ⟨[0x4B], 0b100, 3⟩ = true := by
  decide
/-- V4: bits of the value above the count are ignored. -/
theorem test_writebits_masks : nextIs (exec (.bwWritebits 0xFF 3) (writing [] 0 0)) (·.bw) ⟨[], 0b111, 3⟩ = true := by decide
/-- R143's example: `acc = 0b11, cnt = 2` appends `03`. -/
theorem test_bw_align : nextIs (exec .bwAlign (writing [] 0b11 2)) (·.bw) ⟨[0x03], 0, 0⟩ = true := by decide
/-- V4: `ALIGN` with `cnt = 0` appends nothing. -/
theorem test_bw_align_aligned : nextIs (exec .bwAlign (writing [7] 0 0)) (·.bw) ⟨[7], 0, 0⟩ = true := by decide
theorem test_appendbyte : nextIs (exec (.bwAppendbyte 0x1F) (writing [] 0 0)) (·.bw.buf) [0x1F] = true := by decide
/-- R146's example: 8 bits of `4B 04` from bit 3. -/
theorem test_readbits : nextIs (exec (.brReadbits 8) (reading [0x4B, 0x04] 3)) (fun t => (t.result, t.br.bitpos))
    (.value 0x89, 11) = true := by decide
/-- V5: seven bits where six remain. -/
theorem test_readbits_truncated : nextIs (exec (.brReadbits 7) (reading [0x4B, 0x04, 0x00] 18)) (·.status) 0x46 = true := by
  decide
/-- V8: nine bits peeked where four remain. -/
theorem test_peekbits : nextIs (exec (.brPeekbits 9) (reading [0xA5] 4)) (fun t => (t.result, t.br.bitpos))
    (.value 0x00A, 4) = true := by decide
/-- V7: the byte a peek has loaded is not lost by `ALIGN`. -/
theorem test_br_align : nextIs (exec .brAlign { State.reset with br := ⟨[0xA5, 0x3C], 3, 13⟩ }) (·.br)
    ⟨[0xA5, 0x3C], 8, 8⟩ = true := by decide
theorem test_skipbits : nextIs (exec (.brSkipbits 7) (reading [0x03, 0x00] 3)) (·.br.bitpos) 10 = true := by decide
/-- V10: table entries. -/
theorem test_crc_table : crcTab 0 = 0 ∧ crcTab 1 = 0x77073096 ∧ crcTab 0x80 = 0xEDB88320 ∧ crcTab 0x9E = 0x17B7BE43 ∧
    crcTab 0xFF = 0x2D02EF8D := by decide
/-- V11. -/
theorem test_crc_update : nextIs (exec (.crcUpdate 0x61) { State.reset with crc := 0xFFFFFFFF }) (·.crc) 0x174841BC = true := by
  decide
theorem test_crc_final : nextIs (exec .crcFinal { State.reset with crc := 0x174841BC }) (·.result) (.value 0xE8B7BE43) =
    true := by decide
/-- V12. -/
theorem test_crc_value : crc32 [] = 0 ∧ crc32 [0x61, 0x62, 0x63] = 0x352441C2 ∧ crc32 [0xFF] = 0xFF000000 := by decide +kernel
/-- R173's example: symbol 144 is `WRITEBITS(0x013, 9)`. -/
theorem test_heLitlen : nextIs (exec (.heLitlen 144) (writing [] 0 0)) (·.bw) ⟨[0x13], 0, 1⟩ = true := by decide
/-- R174's example: distance 3 is `WRITEBITS(24, 5)`. -/
theorem test_heDist : nextIs (exec (.heDist 3) (writing [] 0 0)) (·.bw) ⟨[], 24, 5⟩ = true := by decide
/-- R177's example. -/
theorem test_hdLitlen : nextIs (exec .hdLitlen (reading [0x4B, 0x04, 0x00] 3)) (fun t => (t.result, t.br.bitpos))
    (.value 0x61, 11) = true := by decide
/-- R178: an end of block with seven bits left. -/
theorem test_hdLitlen_near_end : nextIs (exec .hdLitlen (reading [0x01] 1)) (·.result) (.value 256) = true := by decide
/-- R179's example: stream bits `0 0 0 1 1`. -/
theorem test_hdDist : nextIs (exec .hdDist (reading [0b11000] 0)) (·.result) (.value 3) = true := by decide
/-- R192's example: the insertion of 3 in "abcabc". -/
theorem test_insert : nextIs (exec (.tkInsert 3) { holding [0x61, 0x62, 0x63, 0x61, 0x62, 0x63] with
    tk := (TK.start []).insertMany [0x61, 0x62, 0x63, 0x61, 0x62, 0x63] 3 })
    (fun t => (t.tk.prev, t.tk.head.get 0x636261, t.tk.ins)) ([(3, 0)], some 3, 4) = true := by decide +kernel
/-- R193's example: `FINDMATCH(1)` in ten equal bytes. -/
theorem test_findmatch : nextIs (exec (.tkFindmatch 1) (holding (List.replicate 10 0x61))) (·.result) (.found 9 1) = true := by
  decide +kernel
/-- R194: the same answer when a search further on has already inserted later positions; and none at a position that is not
hashable. -/
theorem test_findmatch_again :
    nextIs (exec (.tkFindmatch 1) { holding (List.replicate 10 0x61) with
        tk := (TK.start []).insertMany (List.replicate 10 0x61) 8 }) (fun t => (t.result, t.tk.ins)) (.found 9 1, 8) = true ∧
      nextIs (exec (.tkFindmatch 0) { holding [0x61] with tk := (TK.start []).insertMany [0x61] 1 })
        (fun t => (t.result, t.tk.ins)) (.notFound, 1) = true := by decide +kernel
/-- From reset no position is in the input: the search runs, and inserts nothing. -/
theorem test_findmatch_reset : nextIs (exec (.tkFindmatch 0) State.reset) (fun t => (t.tk, t.free)) (TK.start [], 1) = true := by
  decide
/-- R192, R193: a search beyond the input still inserts up to its position. -/
theorem test_findmatch_beyond : nextIs (exec (.tkFindmatch 5) (holding [0x61, 0x62, 0x63]))
    (fun t => (t.tk.head.get 0x636261, t.tk.ins)) (some 0, 5) = true := by decide
/-- R196's example: the deferred match in "abc_bcde_abcde". -/
theorem test_tokenize : nextIs (exec .tkTokenize (holding
      [0x61, 0x62, 0x63, 0x5F, 0x62, 0x63, 0x64, 0x65, 0x5F, 0x61, 0x62, 0x63, 0x64, 0x65])) (·.tk.queue)
    [.lit 0x61, .lit 0x62, .lit 0x63, .lit 0x5F, .lit 0x62, .lit 0x63, .lit 0x64, .lit 0x65, .lit 0x5F, .lit 0x61,
      .mtch 4 6] = true := by decide +kernel
/-- R198: two bytes give two literals. -/
theorem test_tokenize_short : nextIs (exec .tkTokenize (holding [0x61, 0x61])) (·.tk.queue) [.lit 0x61, .lit 0x61] = true := by
  decide +kernel
/-- R210's example: `LIT 0x61` is `4B 04 00`; no token is `03 00`. -/
theorem test_encBlock : nextIs (exec .encBlock { State.reset with tk := TK.start [.lit 0x61] }) (·.bw.buf)
      [0x4B, 0x04, 0x00] = true ∧
    nextIs (exec .encBlock State.reset) (·.bw.buf) [0x03, 0x00] = true := by decide
/-- R211: the last 8-bit literal is `10111111`. -/
theorem test_encLiteral : nextIs (exec (.encLiteral 143) (writing [] 0 0)) (·.bw.bits)
    [true, false, true, true, true, true, true, true] = true := by decide
/-- R213's example: `Match(222, 4)` is `11000011 11011 00011`. -/
theorem test_encMatch : nextIs (exec (.encMatch 222 4) (writing [] 0 0)) (·.bw.bits)
    [true, true, false, false, false, false, true, true, true, true, false, true, true, false, false, false, true, true] =
    true := by decide
/-- R213: `Match(258, 32768)` is symbol 285 and symbol 29 with 13 one bits. -/
theorem test_encMatch_edge : nextIs (exec (.encMatch 258 32768) (writing [] 0 0)) (·.bw.bits)
    ([true, true, false, false, false, true, false, true] ++ [true, true, true, false, true] ++ List.replicate 13 true) =
    true := by decide
/-- R214's example: after 11 bits, seven zero bits and six of padding. -/
theorem test_encEob : nextIs (exec .encEob (writing [0x4B] 0b100 3)) (·.bw) ⟨[0x4B, 0x04, 0x00], 0, 0⟩ = true := by decide
/-- R239's example: `LIT 0x61 ; MATCH len=9 dist=1 ; EOB`. -/
theorem test_inflate : nextIs (exec .decInflate (reading [0x4B, 0x84, 0x03, 0x00] 0)) (·.out) (List.replicate 10 0x61) =
    true := by decide +kernel
/-- R236: `05 00`. -/
theorem test_inflate_dynamic : nextIs (exec .decInflate (reading [0x05, 0x00] 0)) (·.status) 0x56 = true := by decide +kernel
theorem test_blkhdr : nextIs (exec .decBlkhdr (reading [0x05] 0)) (fun t => (t.dec.bfinal, t.dec.btype)) (1, 2) = true := by
  decide
/-- R237's example. -/
theorem test_stored : nextIs (exec .decStored (reading [0x01, 0x03, 0x00, 0xFC, 0xFF, 0x61, 0x62, 0x63] 3)) (·.out)
    [0x61, 0x62, 0x63] = true := by decide
/-- R237: a bad NLEN is reported before the missing data. -/
theorem test_stored_nlen : nextIs (exec .decStored (reading [0x01, 0x03, 0x00, 0xFC, 0xFE] 3)) (·.status) 0x66 = true := by
  decide
/-- R245's example: a match as the first item. -/
theorem test_fixed_bad_distance : nextIs (exec .decFixed (reading [0x03, 0x02, 0x00] 3)) (·.status) 0x76 = true := by
  decide +kernel
/-- R244's examples. -/
theorem test_copy : nextIs (exec (.decCopy 6 3) (decoding [] 0 [0x61, 0x62, 0x63])) (·.out)
      [0x61, 0x62, 0x63, 0x61, 0x62, 0x63, 0x61, 0x62, 0x63] = true ∧
    nextIs (exec (.decCopy 9 1) (decoding [] 0 [0x61])) (·.out) (List.replicate 10 0x61) = true := by decide
/-- R240 on `4B 04 00` after the block header. -/
theorem test_literal : nextIs (exec .lit61 (decoding [0x4B, 0x04, 0x00] 3 [])) (fun t => (t.out, t.br.bitpos)) ([0x61], 11) =
    true := by decide
theorem test_reserved_symbol : nextIs (exec .reservedLitlen286 (decoding [0x63] 0 [])) (·.status) 0x86 = true ∧
    nextIs (exec .reservedDist31 (decoding [0x1F] 0 [])) (·.status) 0x86 = true := by decide
/-- R113, R115: symbol 283 with extra 27 is 222; distance symbol 4 with extra 1 is 6. -/
theorem test_length_and_distance : nextIs (exec (.len283 27) (decoding [0xC3, 0x1B] 0 [])) (·.dec.len) 222 = true ∧
    nextIs (exec (.dist4 1) { decoding [0x24] 0 [1, 2, 3, 4, 5, 6] with dec := ⟨1, 1, 3⟩ }) (·.out)
      [1, 2, 3, 4, 5, 6, 1, 2, 3] = true := by decide
theorem test_writehdr : nextIs (exec .gzWritehdr State.reset) (·.bw.buf)
    [0x1F, 0x8B, 0x08, 0x00, 0x00, 0x00, 0x00, 0x00, 0x00, 0xFF] = true := by decide
/-- R264's example. -/
theorem test_writeftr : nextIs (exec .gzWriteftr (holding [0x61])) (·.bw.buf)
    [0x43, 0xBE, 0xB7, 0xE8, 0x01, 0x00, 0x00, 0x00] = true := by decide
/-- R270's example: `flg = 0x08`, name `66 00`. -/
theorem test_parsehdr : nextIs (exec .gzParsehdr (holding [0x1F, 0x8B, 0x08, 0x08, 0, 0, 0, 0, 0, 0, 0x66, 0x00, 0x03, 0x00, 0,
    0, 0, 0, 0, 0, 0, 0])) (fun t => (t.gz.pos, t.gz.endPos)) (12, 14) = true := by decide
/-- R268's and R269's examples: 17 bytes; `1F 8B 07`. -/
theorem test_parsehdr_errors : nextIs (exec .gzParsehdr (holding (List.replicate 17 0x1F))) (·.status) 0x16 = true ∧
    nextIs (exec .gzParsehdr (holding (0x1F :: 0x8B :: 0x07 :: List.replicate 15 0))) (·.status) 0x26 = true := by decide
/-- R272: `COMPRESS(61)`'s footer, right, and with byte 13 changed. -/
theorem test_checkftr : nextIs (exec .gzCheckftr { holding [0x43, 0xBE, 0xB7, 0xE8, 0x01, 0, 0, 0] with out := [0x61] })
      (·.status) 0 = true ∧
    nextIs (exec .gzCheckftr { holding [0x42, 0xBE, 0xB7, 0xE8, 0x01, 0, 0, 0] with out := [0x61] }) (·.status) 0x96 =
      true := by decide
/-- R260: the start of a command. -/
theorem test_compress_starts : nextIs (exec .compress State.reset) (fun t => (t.status, t.phase)) (0x01, .cTokenize) = true := by
  decide
theorem test_decompress_starts : nextIs (exec .decompress State.reset) (fun t => (t.status, t.expect)) (0x01, .gzhdr) = true := by
  decide
/-- V41: `COMPRESS(61)` as a function (R261's example), and back. -/
theorem test_compress_function : compressBytes [0x61] = [0x1F, 0x8B, 0x08, 0x00, 0x00, 0x00, 0x00, 0x00, 0x00, 0xFF, 0x4B, 0x04,
    0x00, 0x43, 0xBE, 0xB7, 0xE8, 0x01, 0x00, 0x00, 0x00] := by decide +kernel

/-! ### Witnesses: every statement's hypotheses are met, at the boundary of each clause -/

theorem witness_DecodeInvertsEncode : WellFormed (.bwWritebits 0x1ABC 16) = true ∧ WellFormed (.brInit [0x4B, 0x04]) = true ∧
    WellFormed (.decCopy 258 32768) = true ∧ WellFormed (.dist29 0x1FFF) = true := by decide

theorem witness_DecodedInstructionsFitTheirFormat : decode .uop (0x84 + 255 * 2 ^ 8 + 32767 * 2 ^ 16) =
    .ok (.decCopy 258 32768) := by decide +kernel

theorem witness_CodesArePrefixFreeAndComplete : (287 < 288 ∧
    codeBits (litlenCode 287).1 (litlenCode 287).2 <+: codeBits (litlenCode 287).1 (litlenCode 287).2) ∧
    (31 < 32 ∧ codeBits 31 5 <+: codeBits 31 5) := by decide

theorem witness_StepRunsTheDecodedInstruction_command :
    ({ State.reset with inbox := [.writeCmd 1] } : State).inbox = .writeCmd 1 :: [] ∧
      decode .cmd (1 : BitVec 2).toNat = .ok .compress := by decide

theorem witness_StepRunsTheDecodedInstruction_uop :
    ({ State.reset with uops := [0x90, 0x62] } : State).inbox = [] ∧
      ({ State.reset with uops := [0x90, 0x62] } : State).uops = 0x90 :: [0x62] ∧ decode .uop 0x90 = .ok .gzWritehdr := by decide

/-- A core that expects element `e` of the member `COMPRESS(61)`, its payload in the reader. -/
def expecting (e : Expect) : State :=
  { holding [0x1F, 0x8B, 0x08, 0x00, 0x00, 0x00, 0x00, 0x00, 0x00, 0xFF, 0x4B, 0x04, 0x00, 0x43, 0xBE, 0xB7, 0xE8, 0x01, 0x00,
      0x00, 0x00] with
    status := statusBusy
    phase := if e = .gzhdr ∨ e = .gzopt then .dHeader else if e = .gzftr then .dFooter else .dInflate
    expect := e
    br := BR.init [0x4B, 0x04, 0x00] }

theorem witness_StepRunsTheDecodedInstruction_elements : ∀ e ∈ [Expect.blkhdr, .litlen, .dist, .stored, .gzopt, .gzhdr, .gzftr],
    (expecting e).inbox = [] ∧ (expecting e).uops = [] ∧ (expecting e).busy = true ∧ (expecting e).expect = e := by decide

theorem witness_StepRunsTheDecodedInstruction_words :
    decode .blkhdr (bitsAt (expecting .blkhdr).br.src (expecting .blkhdr).br.bitpos 3) = .ok (.blkFixed 1) ∧
      decode .litlen (bitsAt [0x4B, 0x04, 0x00] 3 14) = .ok .lit61 ∧ decode .dist (bitsAt [0x4B, 0x84, 0x03] 18 18) = .ok .dist0 ∧
      decode .stored (bitsAt [0x01, 0x03, 0x00, 0xFC, 0xFF] 8 32) = .ok (.storedBody 3 0xFFFC) ∧
      decode .gzopt (0x08 : Byte).toNat = .ok .gzoptFname := by decide +kernel

theorem witness_StepRunsTheDecodedInstruction_container :
    (∃ d, (expecting .gzhdr).input = some d ∧ 18 ≤ (expecting .gzhdr).n ∧
        decode .gzhdr (leNat (d.take 10)) = .ok (.gzhdr 0 0 0 0xFF) ∧
        decode .gzftr (leNat (d.drop ((expecting .gzhdr).n - 8))) = .ok (.gzftr 0xE8B7BE43 1)) ∧
      (expecting .gzopt).gz.opt &&& 0x1E#8 = 0 := ⟨⟨_, rfl, by decide, by decide, by decide⟩, by decide⟩

theorem witness_ResetLeavesTheCoreIdle : step State.reset = .next State.reset := rfl

/-- A busy decoder that meets the invariant. -/
theorem witness_StepKeepsInvariant : (expecting .blkhdr).Inv ∧ ∃ t, step (expecting .blkhdr) = .next t := by
  refine ⟨?_, _, rfl⟩
  constructor
  · decide
  · decide
  · decide
  · unfold BW.Ok; decide
  · unfold BR.Ok; decide
  · refine ⟨by decide, by decide, by decide, fun _ => by decide, fun h => absurd h (by decide)⟩
  · refine ⟨by decide, rfl, fun _ => ⟨by decide, fun h => absurd rfl h⟩⟩
  · decide

theorem witness_CommandsCompleteAndTheCoreWaits :
    (({ State.reset with status := statusBusy, phase := .cFrame } : State).inbox = [] ∧
        ({ State.reset with status := statusBusy, phase := .cFrame } : State).uops = [] ∧
        ({ State.reset with status := statusBusy, phase := .cFrame } : State).busy = true ∧
        ({ State.reset with status := statusBusy, phase := .cFrame } : State).expect = .nothing) ∧
      State.reset.Quiet := by unfold State.Quiet; decide

theorem witness_ErrorEntry : State.reset.inbox = [] := rfl

theorem witness_ReservedCommandsAreRefused :
    ({ State.reset with inbox := [.writeCmd 3] } : State).inbox = .writeCmd 3 :: [] ∧
      ({ expecting .blkhdr with inbox := [.writeCmd 0] } : State).inbox = .writeCmd 0 :: [] ∧
      ({ expecting .blkhdr with inbox := [.writeCmd 0] } : State).busy = true := by decide

theorem witness_CommandsStart : State.reset.busy = false := by decide

theorem witness_HostAccesses : ∀ e ∈ [HostEvent.writeIn 0 0x61, .writeInLen 1, .readStatus, .readOutLen, .readIn 0, .readOut 0, .turn, .reset],
    ({ State.reset with inbox := [e] } : State).inbox = e :: [] := by decide

theorem witness_InputIsReadOnly : exec .bwInit State.reset = .next State.reset ∧ State.reset.inbox = [] ∧
    step State.reset = .next State.reset ∧ Memory.readBytes [(0, 7)] 0 State.reset.n = State.reset.inBuf.readBytes 0 State.reset.n :=
  ⟨rfl, rfl, rfl, rfl⟩

theorem witness_OutputIsAppendOnly_running : (decoding [0x4B, 0x04, 0x00] 3 []).inbox = [] ∧
    (decoding [0x4B, 0x04, 0x00] 3 []).busy = true ∧ ∃ t, step (decoding [0x4B, 0x04, 0x00] 3 []) = .next t ∧ t.busy = true :=
  ⟨rfl, by decide, exists_of_nextIs (by decide +kernel)⟩

theorem witness_OutputIsAppendOnly_ending : (decoding [0x63] 0 []).inbox = [] ∧ (decoding [0x63] 0 []).busy = true ∧
    ∃ t, step (decoding [0x63] 0 []) = .next t ∧ t.busy = false :=
  ⟨rfl, by decide, exists_of_nextIs (by decide +kernel)⟩

/-- R60, R67: the host reads back the byte it wrote to `IN`, also while a command runs. -/
theorem test_host_reads_input : nextIs (step { expecting .blkhdr with inbox := [.readIn 0] })
    (fun t => (t.hostInByte 0, t.hostInByte 21, t.inbox)) (some 0x1F, none, []) = true := by decide

/-- `COMPRESS(61)` about to write its header (V41). -/
def compressing : State := { holding [0x61] with status := statusBusy, phase := .cTokenize, uops := compressUops }

theorem witness_OutputIsAppendOnly_compressing : compressing.Inv ∧ compressing.inbox = [] ∧ compressing.busy = true ∧
    ∃ t, step compressing = .next t ∧ t.busy = true := by
  refine ⟨?_, rfl, by decide, exists_of_nextIs (by decide)⟩
  constructor
  · decide
  · decide
  · decide
  · unfold BW.Ok; decide
  · unfold BR.Ok; decide
  · refine ⟨by decide, by decide, by decide, fun _ => by decide, fun h => absurd h (by decide)⟩
  · refine ⟨by decide, ⟨by decide, by decide⟩, fun _ => by decide⟩
  · decide

/-- R60, R68: as the member of `61` is built, `OUT` is the header and then the three bytes of the stream. -/
theorem test_member_being_built :
    nextIs (step compressing) (fun t => (t.outBytes, t.deflateBytes)) ([0x1F, 0x8B, 0x08, 0, 0, 0, 0, 0, 0, 0xFF], []) = true ∧
      nextIs (step { compressing with bw := ⟨gzHeader, 0, 0⟩, tk := TK.start [.lit 0x61], uops := [0x70, 0x91] })
        (fun t => (t.outBytes, t.deflateBytes))
        ([0x1F, 0x8B, 0x08, 0, 0, 0, 0, 0, 0, 0xFF, 0x4B, 0x04, 0x00], [0x4B, 0x04, 0x00]) = true := by decide

theorem witness_OnlyTheNamedOperationsRaise :
    ∃ t, exec .reservedLitlen286 (decoding [0x63] 0 []) = .next t ∧ t.status ≠ statusBusy := ⟨_, rfl, by decide⟩

/-- The lists are each element's own (R240, R242, R243, R236). -/
theorem test_raises : Instr.raises .lit61 = [.truncated] ∧ Instr.raises .eob = [.truncated] ∧
    Instr.raises (.len285) = [.truncated] ∧ Instr.raises (.dist29 0) = [.truncated, .badDistance] ∧
    Instr.raises .reservedDist31 = [.truncated, .badSymbol] ∧ Instr.raises (.blkFixed 1) = [.truncated] ∧
    Instr.raises .bwInit = [] := by decide

theorem holding_holds (d : List Byte) (h : (holding d).inBuf.readBytes 0 d.length = some d) : (holding d).Holds d := ⟨rfl, h⟩

theorem witness_CompressRunsToCompletion : (holding [0x61]).Quiet ∧ (holding [0x61]).Holds [0x61] ∧ State.reset.Holds [] := by
  unfold State.Quiet State.Holds; decide

theorem witness_DecompressRunsToCompletion : (holding [0x1F, 0x8B]).Quiet ∧ (holding [0x1F, 0x8B]).Holds [0x1F, 0x8B] := by
  unfold State.Quiet State.Holds; decide

/-- Two cores that differ in everything but the input. -/
theorem witness_ResultDependsOnInputAlone : ((1 : BitVec 2) = 1 ∨ (1 : BitVec 2) = 2) ∧ (holding [0x61]).Quiet ∧
    ({ holding [0x61] with bw := ⟨[1], 1, 3⟩, out := [9], inBuf := [(0, 0x61), (7, 0)] } : State).Quiet ∧
    (holding [0x61]).Holds [0x61] ∧
    ({ holding [0x61] with bw := ⟨[1], 1, 3⟩, out := [9], inBuf := [(0, 0x61), (7, 0)] } : State).Holds [0x61] := by
  unfold State.Quiet State.Holds; decide

theorem witness_RoundTripForAnyTokenizer : ValidTokens (List.replicate 10 0x61) [.lit 0x61, .mtch 9 1] ∧
    ValidTokens (List.replicate 10 0x61) (List.replicate 10 (.lit 0x61)) ∧ ValidTokens [] [] := by
  unfold ValidTokens; decide

theorem witness_TruncatedMembersFail : ValidTokens [0x61] [.lit 0x61] ∧ 0 < (memberOf [0x61] [.lit 0x61]).length ∧
    20 < (memberOf [0x61] [.lit 0x61]).length := by unfold ValidTokens; decide +kernel

theorem witness_CorruptedFootersFail : ValidTokens [0x61] [.lit 0x61] ∧ (0xE8B7BE42 : Word32) ≠ crc32 [0x61] ∧
    (0 : Word32) ≠ BitVec.ofNat 32 [(0x61 : Byte)].length := by unfold ValidTokens; decide +kernel

theorem witness_WritebitsAppendsTheLowBits : (writing [] 0b011 3).bw.Ok ∧ 16 ≤ 16 ∧ 0 ≤ 16 := by unfold BW.Ok; decide

theorem witness_WriterInitAlignAppend : (writing [] 0b11 2).bw.Ok ∧ (writing [] 0 0).bw.Ok ∧ (writing [] 0 0).bw.cnt = 0 ∧
    (writing [] 0b11 2).bw.cnt ≠ 0 := by unfold BW.Ok; decide

theorem witness_ReadbitsReturnsTheNextBits : 16 ≤ (reading [0xA5, 0x3C] 0).br.avail ∧ (reading [0xA5, 0x3C] 1).br.avail < 16 ∧
    0 ≤ (reading [] 0).br.avail := by decide

theorem witness_PeekDoesNotConsume : 16 ≤ 16 ∧ 16 ≤ (reading [0xA5, 0x3C] 0).br.avail := by decide

theorem witness_ReaderInitSkipAlign : 7 ≤ (reading [0x03] 1).br.avail ∧ (reading [0x03] 2).br.avail < 7 ∧
    (reading [0x03] 3).br.Ok := by unfold BR.Ok; decide

theorem witness_WrittenFieldsReadBack : ∀ f ∈ [(0xFFFF, 16), (5, 3), (9, 0)], f.2 ≤ 16 := by decide

theorem witness_OutOfRangeOperandsAreRefused : 16 < 17 ∧ 288 ≤ 288 ∧ 32 ≤ 32 ∧ (2 < 3 ∨ 258 < 2 ∨ 1 < 1 ∨ 32768 < 1) ∧
    (3 < 3 ∨ 258 < 3 ∨ 1 < 1 ∨ 32768 < 32769) ∧ State.reset.out.length < 1 ∧ 1 ≠ State.reset.tk.ins ∧
    (writing [] 1 1).bw.cnt ≠ 0 := by decide

theorem witness_HuffmanEncoderWritesCodes : (writing [] 0b011 3).bw.Ok ∧ 287 < 288 ∧ 31 < 32 := by unfold BW.Ok; decide

theorem witness_CodeLaw : (287 < 288 ∧ (reading [0xE3] 0).br.begins (heLitlen 287 BW.empty).bits) ∧
    (255 < 288 ∧ (reading [0xFF, 0x01] 0).br.begins (heLitlen 255 BW.empty).bits) ∧
    31 < 32 ∧ (reading [0x1F] 0).br.begins (heDist 31 BW.empty).bits := by unfold BR.begins; decide

theorem witness_InsertUpdatesTheChains : (holding [1, 2, 3]).input = some [1, 2, 3] ∧ (holding [1, 2, 3]).tk.prev.wf = true ∧
    (holding [1, 2, 3]).tk.ins + 3 ≤ (holding [1, 2, 3]).n ∧ (holding [1, 2]).input = some [1, 2] ∧
    (holding [1, 2]).n < (holding [1, 2]).tk.ins + 3 := by decide

/-- "abcabc" with `k` positions inserted, fewer and more than `q`: a candidate at 3, none at 1, and 4 is not hashable. -/
theorem witness_FindmatchClosedForm : ∀ k ∈ [0, 3, 5],
    ({ holding [0x61, 0x62, 0x63, 0x61, 0x62, 0x63] with
        tk := (TK.start []).insertMany [0x61, 0x62, 0x63, 0x61, 0x62, 0x63] k } : State).input =
      some [0x61, 0x62, 0x63, 0x61, 0x62, 0x63] ∧
    ((TK.start []).insertMany [0x61, 0x62, 0x63, 0x61, 0x62, 0x63] k).ins = k ∧
    3 < (holding [0x61, 0x62, 0x63, 0x61, 0x62, 0x63]).n ∧ 3 + 3 ≤ (holding [0x61, 0x62, 0x63, 0x61, 0x62, 0x63]).n ∧
    candidates [0x61, 0x62, 0x63, 0x61, 0x62, 0x63] 3 ≠ [] ∧ candidates [0x61, 0x62, 0x63, 0x61, 0x62, 0x63] 1 = [] ∧
    (holding [0x61, 0x62, 0x63, 0x61, 0x62, 0x63]).n < 4 + 3 ∧
    (holding [0x61, 0x62, 0x63, 0x61, 0x62, 0x63]).n ≤ 6 := by decide +kernel

theorem witness_TokenizeRuns : (holding [0x61]).input = some [0x61] ∧ State.reset.input = some [] := by decide

theorem witness_SymbolSelection : (3 ≤ 258 ∧ 258 ≤ 258) ∧ (3 ≤ 3 ∧ 3 ≤ 258) ∧ (1 ≤ 1 ∧ 1 ≤ 32768) ∧ 32768 ≤ 32768 := by decide

theorem witness_EncoderWritesTheStreamFormat : (writing [] 0b011 3).bw.Ok ∧ 3 ≤ 258 ∧ 258 ≤ 258 ∧ 1 ≤ 32768 ∧ 32768 ≤ 32768 := by
  unfold BW.Ok; decide

theorem witness_EncodeBlock : ({ State.reset with tk := TK.start [.lit 0x61, .mtch 258 32768] } : State).bw.Ok ∧
    ({ State.reset with tk := TK.start [.lit 0x61, .mtch 258 32768] } : State).bw.cnt = 0 ∧
    ({ State.reset with tk := TK.start [.lit 0x61, .mtch 258 32768] } : State).tk.queue.all Token.ok = true := by
  unfold BW.Ok; decide

theorem witness_SizeAndShapeOfTheMember : [Token.lit 143, .lit 144, .mtch 3 1, .mtch 258 32768].all Token.ok = true := by decide

theorem witness_BlockHeader : 3 ≤ (reading [0x05] 5).br.avail ∧ (reading [0x05] 6).br.avail < 3 := by decide

/-- `01 03 00 FC FF 61 62 63` after its header; the same with no data; and a source that ends inside `NLEN`. -/
theorem witness_StoredBlocks : 8 * [(0x01 : Byte)].length < (reading [0x01, 0x03, 0x00, 0xFC, 0xFF, 0x61, 0x62, 0x63] 3).br.bitpos + 8 ∧
    (reading [0x01, 0x03, 0x00, 0xFC, 0xFF, 0x61, 0x62, 0x63] 3).br.bitpos ≤ 8 * [(0x01 : Byte)].length ∧
    (reading [0x01, 0x03, 0x00, 0xFC, 0xFF, 0x61, 0x62, 0x63] 3).br.src =
      [0x01] ++ leBytes 2 3 ++ leBytes 2 (0xFFFF - 3) ++ [0x61, 0x62, 0x63] ++ [] ∧
    (reading [0x01, 0x03, 0x00, 0xFC, 0xFF] 3).br.src = [0x01] ++ leBytes 2 3 ++ leBytes 2 (0xFFFF - 3) ++ [] ∧
    (reading [0x01, 0x03, 0x00, 0xFC, 0xFE] 3).br.src = [0x01] ++ leBytes 2 3 ++ leBytes 2 0xFEFC ++ [] ∧ 0xFEFC ≠ 0xFFFF - 3 ∧
    (reading [0x01, 0x03, 0x00, 0xFC] 3).br.src.length < [(0x01 : Byte)].length + 4 := by decide

theorem witness_FixedBlocks : (reading [0x4B, 0x84, 0x03, 0x00] 3).br.begins (bodyStream [.lit 0x61, .mtch 9 1]) ∧
    [Token.lit 0x61, .mtch 9 1].all Token.ok = true ∧
    expandFrom (reading [0x4B, 0x84, 0x03, 0x00] 3).out [.lit 0x61, .mtch 9 1] = some (List.replicate 10 0x61) := by
  unfold BR.begins; decide +kernel

theorem witness_InflateDecodesTheEncodersBlock :
    (reading [0x4B, 0x84, 0x03, 0x00] 0).br.begins ([true, true, false] ++ bodyStream [.lit 0x61, .mtch 9 1]) ∧
    [Token.lit 0x61, .mtch 9 1].all Token.ok = true ∧
    expandFrom (reading [0x4B, 0x84, 0x03, 0x00] 0).out [.lit 0x61, .mtch 9 1] = some (List.replicate 10 0x61) := by
  unfold BR.begins; decide +kernel

theorem witness_CopyIsCyclic : 3 ≤ 258 ∧ 258 ≤ 258 ∧ 1 ≤ 3 ∧ 3 ≤ 32768 ∧ 3 ≤ (decoding [] 0 [0x61, 0x62, 0x63]).out.length := by decide

theorem witness_LiteralAndEndOfBlockElements : (litlenCode (0x61 : Byte).toNat).2 ≤ (decoding [0x89] 0 []).br.avail ∧
    (decoding [0x89] 1 []).br.avail < (litlenCode (0x61 : Byte).toNat).2 ∧ 7 ≤ (decoding [0x01] 1 []).br.avail ∧
    (decoding [0x01] 2 []).br.avail < 7 := by decide

theorem witness_LengthElements : 26 < 29 ∧ 31 < 2 ^ lenExtra 26 ∧
    (litlenCode (257 + 26)).2 + lenExtra 26 ≤ (decoding [0xC3, 0x1B] 3 []).br.avail ∧
    (decoding [0xC3, 0x1B] 4 []).br.avail < (litlenCode (257 + 26)).2 + lenExtra 26 ∧ 28 < 29 ∧ 0 < 2 ^ lenExtra 28 := by decide

theorem witness_DistanceElements : 29 < 30 ∧ 8191 < 2 ^ distExtra 29 ∧ 0 < 2 ^ distExtra 0 ∧
    5 + distExtra 0 ≤ (decoding [0x00] 3 [0x61]).br.avail ∧ distBase 0 + 0 ≤ (decoding [0x00] 3 [0x61]).out.length ∧
    (decoding [0x00] 3 []).out.length < distBase 0 + 0 ∧ (decoding [0x00] 4 [0x61]).br.avail < 5 + distExtra 0 := by decide

theorem witness_ReservedSymbols : 8 ≤ (decoding [0x63] 0 []).br.avail ∧ (decoding [0x63] 1 []).br.avail < 8 ∧
    5 ≤ (decoding [0x1F] 3 []).br.avail ∧ (decoding [0x1F] 4 []).br.avail < 5 := by decide

theorem witness_BlockHeaderElements : 3 ≤ (decoding [0x03] 5 []).br.avail ∧ (decoding [0x03] 6 []).br.avail < 3 := by decide

theorem witness_StoredBodyElement :
    (8 * [(0x01 : Byte)].length < (decoding [0x01, 0x03, 0x00, 0xFC, 0xFF, 0x61, 0x62, 0x63] 3 []).br.bitpos + 8 ∧
      (decoding [0x01, 0x03, 0x00, 0xFC, 0xFF, 0x61, 0x62, 0x63] 3 []).br.bitpos ≤ 8 * [(0x01 : Byte)].length ∧
      (decoding [0x01, 0x03, 0x00, 0xFC, 0xFF, 0x61, 0x62, 0x63] 3 []).br.src =
        [0x01] ++ leBytes 2 (3 : BitVec 16).toNat ++ leBytes 2 (0xFFFC : BitVec 16).toNat ++ [0x61, 0x62, 0x63] ++ [] ∧
      (0xFFFC : BitVec 16) = ~~~3 ∧ [(0x61 : Byte), 0x62, 0x63].length = (3 : BitVec 16).toNat) ∧
    ((decoding [0x01, 0x03, 0x00, 0xFC, 0xFF] 3 []).br.src =
        [0x01] ++ leBytes 2 (3 : BitVec 16).toNat ++ leBytes 2 (0xFFFC : BitVec 16).toNat ++ [] ++ [] ∧
      ([] : List Byte).length < (3 : BitVec 16).toNat) ∧
    (decoding [0x01, 0x03, 0x00, 0xFC, 0xFE] 3 []).br.src =
        [0x01] ++ leBytes 2 (3 : BitVec 16).toNat ++ leBytes 2 (0xFEFC : BitVec 16).toNat ++ [] ++ [] ∧
      (0xFEFC : BitVec 16) ≠ ~~~3 ∧
    (decoding [0x01, 0x03, 0x00, 0xFC] 3 []).br.src.length < [(0x01 : Byte)].length + 4 := by decide

theorem witness_HeaderElement : 18 ≤ (holding (List.replicate 18 0)).n ∧ (holding (List.replicate 17 0)).n < 18 := by decide

/-- A `DECOMPRESS` of `bytes` that expects its header. -/
def header (bytes : List Byte) : State := { holding bytes with status := statusBusy, phase := .dHeader, expect := .gzhdr }

/-- R268's example (17 bytes) and R269's (`1F 8B 07`), met by a running `DECOMPRESS`. -/
theorem witness_HeaderElement_step : (header (List.replicate 17 0x1F)).n < 18 ∧
    (header (0x1F :: 0x8B :: 0x07 :: List.replicate 15 0)).inbox = [] ∧
    (header (0x1F :: 0x8B :: 0x07 :: List.replicate 15 0)).uops = [] ∧
    (header (0x1F :: 0x8B :: 0x07 :: List.replicate 15 0)).busy = true ∧
    (header (0x1F :: 0x8B :: 0x07 :: List.replicate 15 0)).input = some (0x1F :: 0x8B :: 0x07 :: List.replicate 15 0) ∧
    18 ≤ (header (0x1F :: 0x8B :: 0x07 :: List.replicate 15 0)).n ∧
    (0x1F :: 0x8B :: 0x07 :: List.replicate 15 (0 : Byte)).take 3 ≠ [0x1F, 0x8B, 0x08] := by decide

theorem test_bad_header_step : nextIs (step (header (0x1F :: 0x8B :: 0x07 :: List.replicate 15 0))) (·.status) 0x26 = true := by
  decide

/-- A member whose optional fields end at bytes 13 (FEXTRA of one byte) and 11 (a name of one NUL). -/
def fields (bytes : List Byte) (endPos : Nat) : State := { holding bytes with gz := { State.reset.gz with pos := 10, endPos := endPos } }

theorem witness_OptionalFieldElements :
    (fields (List.replicate 10 0 ++ [1, 0, 7] ++ List.replicate 8 0) 13).input =
        some (List.replicate 10 0 ++ [1, 0, 7] ++ List.replicate 8 0) ∧
      10 + 2 + 1 ≤ (fields (List.replicate 10 0 ++ [1, 0, 7] ++ List.replicate 8 0) 13).gz.endPos ∧ 13 ≤ 21 ∧
      (fields (List.replicate 10 0 ++ [2, 0, 7] ++ List.replicate 8 0) 13).gz.endPos < 10 + 2 + 2 ∧
      (10 ≤ 10 ∧ 10 < 11 ∧ byteAt (List.replicate 11 0) 10 = 0 ∧ ∀ j, 10 ≤ j → j < 10 → byteAt (List.replicate 11 0) j ≠ 0) ∧
      (∀ j, 10 ≤ j → j < 11 → byteAt (List.replicate 10 0 ++ [7]) j ≠ 0) ∧ 10 + 2 ≤ 12 ∧ 11 < 10 + 2 := by
  refine ⟨by decide, by decide, by decide, by decide, ⟨by decide, by decide, by decide, fun j h1 h2 => absurd h2 (by omega)⟩, ?_,
    by decide, by decide⟩
  intro j h1 h2
  obtain rfl : j = 10 := by omega
  decide

theorem witness_FooterChecks : crc32 [0x61] = 0xE8B7BE43 ∧ BitVec.ofNat 32 [(0x61 : Byte)].length = 1#32 ∧
    crc32 [0x61] ≠ 0xE8B7BE42 ∧ BitVec.ofNat 32 [(0x61 : Byte)].length ≠ 0#32 ∧
    (holding [0x43, 0xBE, 0xB7, 0xE8, 0x01, 0, 0, 0]).input =
      some ([] ++ leBytes 4 (0xE8B7BE43 : Word32).toNat ++ leBytes 4 (1 : Word32).toNat) := by decide +kernel

theorem witness_HeaderAndFooterWrites : (holding [0x61]).bw.cnt = 0 ∧ (holding [0x61]).input = some [0x61] := by decide

theorem witness_ParseHeader : (holding (List.replicate 17 0)).n < 18 ∧
    ((holding (0x1F :: 0x8B :: 0x07 :: List.replicate 15 0)).input = some (0x1F :: 0x8B :: 0x07 :: List.replicate 15 0) ∧
      18 ≤ (holding (0x1F :: 0x8B :: 0x07 :: List.replicate 15 0)).n ∧
      (0x1F :: 0x8B :: 0x07 :: List.replicate 15 (0 : Byte)).take 3 ≠ [0x1F, 0x8B, 0x08]) ∧
    (0xE1 : Byte) &&& 0x1E = 0 := by decide

/-- A header with all four optional fields: FEXTRA of one byte, the name `66`, an empty comment, a header CRC; the footer
starts at once. -/
def allFields : List Byte :=
  [0x1F, 0x8B, 0x08, 0x1E, 0, 0, 0, 0, 0, 0] ++ [1, 0, 7] ++ [0x66, 0] ++ [0] ++ [5, 5] ++ List.replicate 8 0

/-- R270's order and lengths: FEXTRA ends at 13, FNAME at 15, FCOMMENT at 16, FHCRC at 18 = n - 8. -/
theorem witness_ParseHeader_fields : (holding allFields).input = some allFields ∧ 18 ≤ (holding allFields).n ∧
    allFields.take 3 = [0x1F, 0x8B, 0x08] ∧ 18 ≤ (holding allFields).n - 8 ∧ headerEnds allFields (byteAt allFields 3) 18 := by
  refine ⟨by decide, by decide, by decide, by decide, 13, 15, 16, rfl, ⟨14, rfl, by decide, rfl, ?_⟩,
    ⟨15, rfl, by decide, rfl, fun j h1 h2 => absurd h2 (by omega)⟩, rfl⟩
  intro j h1 h2
  obtain rfl : j = 13 := by omega
  decide

theorem test_parsehdr_all_fields : nextIs (exec .gzParsehdr (holding allFields)) (·.gz.pos) 18 = true := by decide

/-- A header whose name has no NUL before the footer. -/
def noTerminator : List Byte := [0x1F, 0x8B, 0x08, 0x08, 0, 0, 0, 0, 0, 0] ++ List.replicate 8 0

theorem witness_ParseHeader_unterminated : (holding noTerminator).input = some noTerminator ∧ 18 ≤ (holding noTerminator).n ∧
    noTerminator.take 3 = [0x1F, 0x8B, 0x08] ∧
    ∀ pos ≤ (holding noTerminator).n - 8, ¬headerEnds noTerminator (byteAt noTerminator 3) pos := by
  refine ⟨by decide, by decide, by decide, ?_⟩
  rintro pos hp ⟨p1, p2, p3, h1, ⟨k, h2, h3, -⟩, h4, h5⟩
  obtain rfl : p1 = 10 := h1
  obtain rfl : p3 = p2 := h4
  obtain rfl : pos = p3 := h5
  have : pos ≤ 10 := hp
  omega

/-! ### Placing one instruction -/

/-- A bare table word runs as the first instruction after reset: the literal `61` appends its byte, the header latches its
cursor. -/
theorem test_withFetchWord : decodeTableWord 8 0x89 = some .lit61 ∧
    nextIs (step (State.reset.withFetchWord 8 0x89)) (·.out) [0x61] = true ∧
    decodeTableWord 24 0x088B1F = some (.gzhdr 0 0 0 0) ∧
    nextIs (step (State.reset.withFetchWord 24 0x088B1F)) (fun t => (t.gz.pos, t.expect)) (10, .gzopt) = true := by
  decide +kernel

end Sys2Proof.Tests
end

section
/-! Command writes: how a host event reaches the decoder, what the four command codes decode to, and the refusals of R131. -/

namespace Sys2Proof.Machine

/-- Which agent moves is the head of the host's list (R9). -/
theorem step_of_inbox_cons {s : State} {e : HostEvent} {rest : List HostEvent} (hin : s.inbox = e :: rest) :
    step s = hostStep e { s with inbox := rest } := by
  rw [step, hin]

/-- A command write runs the instruction its code decodes to, in the same step (R260). -/
theorem step_writeCmd {s : State} {c : BitVec 2} {rest : List HostEvent} {i : Instr}
    (hin : s.inbox = .writeCmd c :: rest) (hd : decode .cmd c.toNat = .ok i) :
    step s = exec i { s with inbox := rest, cmd := c } := by
  rw [step_of_inbox_cons hin, hostStep, fetchWord, hd, runFetched]

/-- The four command codes (R130). -/
theorem decode_cmd_cases (c : BitVec 2) :
    (c = 0 ∧ decode .cmd c.toNat = .ok .cmdNone) ∨ (c = 1 ∧ decode .cmd c.toNat = .ok .compress) ∨
      (c = 2 ∧ decode .cmd c.toNat = .ok .decompress) ∨ (c = 3 ∧ decode .cmd c.toNat = .ok .cmdReserved) := by
  revert c; decide

theorem whenIdle_of_busy {s : State} (hb : s.busy = true) (t : StepResult) : whenIdle s t = .refused .cmdWhileBusy :=
  if_pos hb

theorem exec_cmdReserved (s : State) : exec .cmdReserved s = .refused .cmdReserved := rfl

/-- Code 3 is refused, busy or not (R131). -/
theorem step_writeCmd_three {s : State} {rest : List HostEvent} (hin : s.inbox = .writeCmd 3 :: rest) :
    step s = .refused .cmdReserved :=
  (step_writeCmd (i := .cmdReserved) hin (by decide)).trans (exec_cmdReserved _)

/-- Each of the other three codes is refused while the core is busy (R131): its instruction is guarded by `whenIdle`, and the
write of `CMD` that comes before it leaves `BUSY` as it was. -/
theorem step_writeCmd_of_busy {s : State} {c : BitVec 2} {rest : List HostEvent} (hin : s.inbox = .writeCmd c :: rest)
    (hc : c ≠ 3) (hb : s.busy = true) : step s = .refused .cmdWhileBusy := by
  have hb' : ({ s with inbox := rest, cmd := c } : State).busy = true := hb
  rcases decode_cmd_cases c with ⟨-, hd⟩ | ⟨-, hd⟩ | ⟨-, hd⟩ | ⟨h3, -⟩
  · exact (step_writeCmd hin hd).trans (whenIdle_of_busy hb' _)
  · exact (step_writeCmd hin hd).trans (whenIdle_of_busy hb' _)
  · exact (step_writeCmd hin hd).trans (whenIdle_of_busy hb' _)
  · exact absurd h3 hc

/-- Settles O11: code 3 has its own refusal in every state, and each other code is refused while the core is busy. -/
theorem reservedCommandsAreRefused : Obligations.ReservedCommandsAreRefused := by
  refine ⟨exec_cmdReserved, fun s c rest hin h => ?_⟩
  by_cases hc : c = 3
  · subst hc
    exact ⟨_, step_writeCmd_three hin⟩
  · exact ⟨_, step_writeCmd_of_busy hin hc (h.resolve_left hc)⟩

end Sys2Proof.Machine
end

section
/-! Bit operations: what a write, a read and a peek of at most 16 bits do to the machine (spec/40_bitstream.md R141, R146,
R148). -/

namespace Sys2Proof.Machine

theorem bitCountOk_of_le {n : Nat} (hn : n ≤ 16) : bitCountOk n = true := decide_eq_true hn

/-! ### The reader's moves as `BR.past`: only the look-ahead is left to say (R43) -/

theorem BR.fill_eq_past (br : BR) (n : Nat) : br.fill n = br.past 0 (br.fill n).held := rfl

theorem BR.fill_past_zero (br : BR) (h n : Nat) : (br.past 0 h).fill n = br.past 0 ((br.past 0 h).fill n).held := rfl

theorem BR.fill_advance_eq_past (br : BR) (m n : Nat) :
    (br.fill m).advance n = br.past n ((br.fill m).held - n) := rfl

/-- Look-ahead is not observable in a peek (R43). -/
@[simp] theorem BR.peekValue_past_zero (br : BR) (h n : Nat) : (br.past 0 h).peekValue n = br.peekValue n := rfl

/-! ### The bits of a peek -/

theorem BR.testBit_peekValue_of_lt (br : BR) {n i : Nat} (hi : i < n) :
    (br.peekValue n).testBit i = bitAt br.src (br.bitpos + i) := by
  rw [BR.peekValue, bitsAt_testBit, decide_eq_true hi, Bool.true_and]

/-- Within the count and the source a peek holds stream bits, and zeros elsewhere (R148). -/
theorem BR.testBit_peekValue (br : BR) (n i : Nat) :
    (br.peekValue n).testBit i = (decide (i < n ∧ i < br.avail) && bitAt br.src (br.bitpos + i)) := by
  by_cases ha : i < br.avail
  · simp [BR.peekValue, bitsAt_testBit, ha]
  · simp [br.peekValue_past_end n i (Nat.le_of_not_lt ha), ha]

/-! ### What the three instructions answer -/

theorem exec_bwWritebits (s : State) (v : Nat) {n : Nat} (hn : n ≤ 16) :
    exec (.bwWritebits v n) s = .next { s with bw := s.bw.writeBits v n } :=
  if_pos (bitCountOk_of_le hn)

theorem exec_brPeekbits (s : State) {n : Nat} (hn : n ≤ 16) :
    exec (.brPeekbits n) s = .next { s with br := s.br.fill n, result := .value (s.br.peekValue n) } :=
  if_pos (bitCountOk_of_le hn)

theorem exec_brReadbits (s : State) {n : Nat} (hn : n ≤ 16) :
    exec (.brReadbits n) s =
      runReader (s.br.readBits n) s fun v t => .next { t with result := .value v } :=
  if_pos (bitCountOk_of_le hn)

/-- A read that the source can satisfy returns what a peek would, and consumes it (R146). -/
theorem exec_brReadbits_of_le_avail (s : State) {n : Nat} (hn : n ≤ 16) (ha : n ≤ s.br.avail) :
    exec (.brReadbits n) s =
      .next { s with br := (s.br.fill n).advance n, result := .value (s.br.peekValue n) } := by
  rcases s.br.readBits_cases n with ⟨-, hr⟩ | ⟨hlt, -⟩
  · rw [exec_brReadbits s hn, hr, runReader_ok]
  · omega

/-- A read past the end raises `E_TRUNCATED` with the reader as it was (R146). -/
theorem exec_brReadbits_of_avail_lt (s : State) {n : Nat} (hn : n ≤ 16) (ha : s.br.avail < n) :
    exec (.brReadbits n) s = .next (raiseError .truncated s) := by
  rcases s.br.readBits_cases n with ⟨hle, -⟩ | ⟨-, hr⟩
  · omega
  · rw [exec_brReadbits s hn, hr, runReader_raise]

/-! ### The statements -/

/-- Settles O24: the writer alone changes, and `BW.bits_writeBits` says by which bits. -/
theorem writebitsAppendsTheLowBits : Obligations.WritebitsAppendsTheLowBits := fun s v n hok hn =>
  ⟨s.bw.writeBits v n, exec_bwWritebits s v hn, BW.writeBits_ok hok v n, BW.bits_writeBits hok v n⟩

/-- Settles O26: the two branches of R146, and the bits of the value returned. -/
theorem readbitsReturnsTheNextBits : Obligations.ReadbitsReturnsTheNextBits := by
  refine fun s n hn => ⟨fun ha => ?_, exec_brReadbits_of_avail_lt s hn⟩
  refine ⟨s.br.peekValue n, (s.br.fill n).held - n, ?_, peekValue_lt s.br n, fun i hi => s.br.testBit_peekValue_of_lt hi⟩
  rw [exec_brReadbits_of_le_avail s hn ha, BR.fill_advance_eq_past]

/-- Settles O27: a peek loads look-ahead and nothing else, so it repeats, and a read returns the same value. -/
theorem peekDoesNotConsume : Obligations.PeekDoesNotConsume := by
  refine fun s n hn => ⟨s.br.peekValue n, (s.br.fill n).held, ?_, s.br.testBit_peekValue n, ?_, fun ha => ?_⟩
  · rw [exec_brPeekbits s hn, ← BR.fill_eq_past]
  · exact ⟨_, by rw [exec_brPeekbits _ hn, BR.peekValue_past_zero, BR.fill_past_zero]⟩
  · exact ⟨(s.br.fill n).held - n, by rw [exec_brReadbits_of_le_avail s hn ha, BR.fill_advance_eq_past]⟩

end Sys2Proof.Machine
end

section
/-! Huffman codes: writing a symbol's code, and finding the code that the unread bits begin with (spec/42_huffman.md R173,
R174, R177 to R179). -/

namespace Sys2Proof.Machine

/-! ### The unread bits and a peek -/

theorem getElem?_lowBits (v : Nat) {n i : Nat} (hi : i < n) : (lowBits v n)[i]? = some (v.testBit i) := by
  simp [lowBits, hi]

/-- The unread bits begin with an integer's low bits exactly when a peek of that width returns the integer. -/
theorem BR.begins_lowBits_iff (br : BR) {v n : Nat} (hv : v < 2 ^ n) :
    br.begins (lowBits v n) ↔ n ≤ br.avail ∧ br.peekValue n = v := by
  unfold BR.begins
  rw [length_lowBits]
  refine and_congr_right fun _ => ⟨fun h => Nat.eq_of_testBit_eq fun i => ?_, fun h i hi => ?_⟩
  · by_cases hi : i < n
    · have hbit := h i hi
      rw [getElem?_lowBits v hi, Option.some.injEq] at hbit
      rw [br.testBit_peekValue_of_lt hi, hbit]
    · have hpow : 2 ^ n ≤ 2 ^ i := Nat.pow_le_pow_right (by decide) (Nat.le_of_not_lt hi)
      rw [Nat.testBit_lt_two_pow (hv.trans_le hpow), Nat.testBit_lt_two_pow ((peekValue_lt br n).trans_le hpow)]
  · rw [getElem?_lowBits v hi, ← h, br.testBit_peekValue_of_lt hi]

/-- The unread bits begin with a code exactly when a peek of its length returns the reversed code (R63). -/
theorem BR.begins_codeBits_iff (br : BR) (code len : Nat) :
    br.begins (codeBits code len) ↔ len ≤ br.avail ∧ br.peekValue len = rev code len := by
  rw [← lowBits_rev, br.begins_lowBits_iff (rev_lt code len)]

/-- The low bits of a peek are the shorter peek. -/
theorem BR.peekValue_mod_of_le (br : BR) {len n : Nat} (h : len ≤ n) : br.peekValue n % 2 ^ len = br.peekValue len := by
  obtain ⟨k, rfl⟩ := Nat.exists_eq_add_of_le h
  exact br.peekValue_mod len k

/-! ### The decode table on a peek -/

/-- When the unread bits begin with a symbol's code, the slot of the peeked index is that symbol's: the bits after the code do
not matter (R175). -/
theorem litlenDec9_peek_of_begins {br : BR} {sym : Nat} (hs : sym < 288)
    (hb : br.begins (codeBits (litlenCode sym).1 (litlenCode sym).2)) :
    litlenDec9 (br.peekValue 9) = (sym, (litlenCode sym).2) := by
  obtain ⟨-, hp⟩ := (br.begins_codeBits_iff _ _).mp hb
  obtain ⟨h7, h9, -⟩ := litlenCode_bounds sym hs
  have hcode := litlenDec9_of_code sym hs
  generalize (litlenCode sym).2 = len at *
  have hsplit : rev (litlenCode sym).1 len + br.peekValue 9 / 2 ^ len * 2 ^ len = br.peekValue 9 := by
    rw [← hp, ← br.peekValue_mod_of_le h9, Nat.mod_add_div']
  have hhi : br.peekValue 9 / 2 ^ len < 4 := by
    rw [Nat.div_lt_iff_lt_mul (by positivity)]
    calc br.peekValue 9 < 4 * 2 ^ 7 := peekValue_lt br 9
      _ ≤ 4 * 2 ^ len := Nat.mul_le_mul_left 4 (Nat.pow_le_pow_right (by decide) h7)
  have hslot := hcode _ hhi (by rw [hsplit]; exact peekValue_lt br 9)
  rwa [hsplit] at hslot

/-- When the slot's code is not longer than what is left, the unread bits begin with it (R175, R178). -/
theorem begins_litlenDec9_peek {br : BR} (ha : (litlenDec9 (br.peekValue 9)).2 ≤ br.avail) :
    br.begins (codeBits (litlenCode (litlenDec9 (br.peekValue 9)).1).1 (litlenCode (litlenDec9 (br.peekValue 9)).1).2) := by
  obtain ⟨-, hlen, hcode⟩ := litlenDec9_slot _ (peekValue_lt br 9)
  obtain ⟨-, -, -, h9⟩ := litlenDec9_peek br
  rw [br.begins_codeBits_iff, ← hlen]
  exact ⟨ha, (br.peekValue_mod_of_le h9).symm.trans hcode⟩

/-! ### What the four instructions answer -/

theorem exec_heLitlen (s : State) {sym : Nat} (hs : sym < 288) :
    exec (.heLitlen sym) s = .next { s with bw := heLitlen sym s.bw } := if_pos hs

theorem exec_heDist (s : State) {d : Nat} (hd : d < 32) :
    exec (.heDist d) s = .next { s with bw := heDist d s.bw } := if_pos hd

theorem exec_hdLitlen (s : State) :
    exec .hdLitlen s = runReader (hdLitlen s.br) s fun v t => .next { t with result := .value v } := rfl

theorem exec_hdDist (s : State) :
    exec .hdDist s = runReader (hdDist s.br) s fun v t => .next { t with result := .value v } := rfl

/-- `HD.LITLEN` answers the symbol whose code comes next, and consumes that code (R177). -/
theorem exec_hdLitlen_of_le_avail (s : State) (ha : (litlenDec9 (s.br.peekValue 9)).2 ≤ s.br.avail) :
    exec .hdLitlen s = .next
      { s with
        br := s.br.past (litlenDec9 (s.br.peekValue 9)).2 ((s.br.fill 9).held - (litlenDec9 (s.br.peekValue 9)).2)
        result := .value (litlenDec9 (s.br.peekValue 9)).1 } := by
  rcases hdLitlen_cases s.br with ⟨-, hr⟩ | ⟨hlt, -⟩
  · rw [exec_hdLitlen, hr, runReader_ok, BR.fill_advance_eq_past]
  · exact absurd ha (Nat.not_le.mpr hlt)

/-- `HD.LITLEN` faults when the code that comes next is longer than what is left (R178). -/
theorem exec_hdLitlen_of_avail_lt (s : State) (ha : s.br.avail < (litlenDec9 (s.br.peekValue 9)).2) :
    exec .hdLitlen s = .next (raiseError .truncated { s with br := s.br.past 0 (s.br.fill 9).held }) := by
  rcases hdLitlen_cases s.br with ⟨hle, -⟩ | ⟨-, hr⟩
  · exact absurd ha (Nat.not_lt.mpr hle)
  · rw [exec_hdLitlen, hr, runReader_raise, ← BR.fill_eq_past]

/-! ### The statements -/

/-- Settles O32: each operation is `BW.WRITEBITS` of the reversed code, whose low bits first are the code's high bits first. -/
theorem huffmanEncoderWritesCodes : Obligations.HuffmanEncoderWritesCodes := fun s sym d hok =>
  ⟨fun hs => ⟨heLitlen sym s.bw, exec_heLitlen s hs, heLitlen_ok hok sym, bits_heLitlen hok sym⟩,
    fun hd => ⟨heDist d s.bw, exec_heDist s hd, heDist_ok hok d, bits_heDist hok d⟩⟩

/-- R177, R178: `HD.LITLEN` answers the code that the unread bits begin with, or faults when they begin with none. -/
theorem exec_hdLitlen_cases (s : State) :
    (∃ sym h, sym < 288 ∧ s.br.begins (codeBits (litlenCode sym).1 (litlenCode sym).2) ∧
        exec .hdLitlen s = .next { s with br := s.br.past (litlenCode sym).2 h, result := .value sym }) ∨
      (∀ sym < 288, ¬s.br.begins (codeBits (litlenCode sym).1 (litlenCode sym).2)) ∧
        ∃ h, exec .hdLitlen s = .next (raiseError .truncated { s with br := s.br.past 0 h }) := by
  rcases Nat.lt_or_ge s.br.avail (litlenDec9 (s.br.peekValue 9)).2 with ha | ha
  · refine .inr ⟨fun sym hs hb => ?_, _, exec_hdLitlen_of_avail_lt s ha⟩
    have hle := ((s.br.begins_codeBits_iff _ _).mp hb).1
    rw [litlenDec9_peek_of_begins hs hb] at ha
    exact absurd ha (Nat.not_lt.mpr hle)
  · obtain ⟨hsym, hlen, -⟩ := litlenDec9_peek s.br
    exact .inl ⟨_, _, hsym, begins_litlenDec9_peek ha, hlen ▸ exec_hdLitlen_of_le_avail s ha⟩

/-- R179: `HD.DIST` answers the symbol of the next five bits, reversed, or faults when fewer are left. -/
theorem exec_hdDist_cases (s : State) :
    (∃ d h, d < 32 ∧ s.br.begins (codeBits d 5) ∧
        exec .hdDist s = .next { s with br := s.br.past 5 h, result := .value d }) ∨
      s.br.avail < 5 ∧ exec .hdDist s = .next (raiseError .truncated s) := by
  rcases hdDist_cases s.br with ⟨ha, hr⟩ | ⟨ha, hr⟩
  · refine .inl ⟨rev (s.br.peekValue 5) 5, (s.br.fill 5).held - 5, rev_lt _ 5, ?_, ?_⟩
    · exact (s.br.begins_codeBits_iff _ 5).mpr ⟨ha, (rev_rev _ 5 (peekValue_lt s.br 5)).symm⟩
    · rw [exec_hdDist, hr, runReader_ok, BR.fill_advance_eq_past]
  · exact .inr ⟨ha, by rw [exec_hdDist, hr, runReader_raise]⟩

/-- Settles O33: the decode table's slot for a peek is the one code that the unread bits begin with. -/
theorem huffmanDecoderReadsExactlyOneCode : Obligations.HuffmanDecoderReadsExactlyOneCode := fun s =>
  ⟨exec_hdLitlen_cases s, exec_hdDist_cases s⟩

end Sys2Proof.Machine
end

section
/-! The fixed-Huffman encoder: the symbol that stands for a length or a distance, and the bits that each operation appends
(spec/44_deflate_fixed_encoder.md R210 to R214). -/

namespace Sys2Proof.Machine

/-! ### The largest base not above a value (R212) -/

/-- In a rising table the entries not above `v` are the first ones, so counting them says where they end. -/
theorem lt_countP_le_iff {table : List Nat} (hs : table.Pairwise (· ≤ ·)) (v : Nat) {i : Nat} (hi : i < table.length) :
    i < table.countP (· ≤ v) ↔ table.getD i 0 ≤ v := by
  induction table generalizing i with
  | nil => exact absurd hi (Nat.not_lt_zero i)
  | cons b bs ih =>
    obtain ⟨hb, hbs⟩ := List.pairwise_cons.mp hs
    by_cases hv : b ≤ v
    · rw [List.countP_cons_of_pos (p := (· ≤ v)) (decide_eq_true hv)]
      cases i with
      | zero => simpa using hv
      | succ i => simpa using ih hbs (Nat.lt_of_succ_lt_succ hi)
    · have hall : ∀ x ∈ b :: bs, ¬x ≤ v := by
        rintro x (_ | ⟨_, hx⟩)
        · exact hv
        · exact fun h => hv ((hb x hx).trans h)
      have hnone : (b :: bs).countP (· ≤ v) = 0 := List.countP_eq_zero.mpr (by simpa using hall)
      have habove := hall _ (List.getElem_mem hi)
      rw [hnone, List.getD_eq_getElem _ _ hi]
      simp [habove]

section
variable {table extra : List Nat} {v bound : Nat}

/-- In a rising table that starts at or below `v`, `largestBase` is the largest index whose entry is not above `v`. -/
theorem largestBase_isGreatest (hs : table.Pairwise (· ≤ ·)) (hne : 0 < table.length) (h0 : table.getD 0 0 ≤ v) :
    largestBase table v < table.length ∧ table.getD (largestBase table v) 0 ≤ v ∧
      ∀ i < table.length, table.getD i 0 ≤ v → i ≤ largestBase table v := by
  have hpos : 0 < table.countP (· ≤ v) := (lt_countP_le_iff hs v hne).mpr h0
  have hcount : table.countP (· ≤ v) ≤ table.length := List.countP_le_length
  have hlt : largestBase table v < table.length := by unfold largestBase; omega
  refine ⟨hlt, (lt_countP_le_iff hs v hlt).mp (by unfold largestBase; omega), fun i hi hle => ?_⟩
  exact Nat.le_sub_one_of_lt ((lt_countP_le_iff hs v hi).mpr hle)

/-- Each entry's extra bits reach to the next entry, and the last entry's to `bound`. -/
def ExtraReaches (table extra : List Nat) (bound : Nat) : Prop :=
  ∀ i < table.length, (table ++ [bound]).getD (i + 1) 0 ≤ table.getD i 0 + 2 ^ extra.getD i 0

/-- Where the extra bits reach to the next entry, what is left above the largest base not above `v` fits them: a value
beyond them would not be below the next entry. -/
theorem sub_largestBase_lt (hs : table.Pairwise (· ≤ ·)) (hne : 0 < table.length) (h0 : table.getD 0 0 ≤ v)
    (hr : ExtraReaches table extra bound) (hv : v < bound) :
    v - table.getD (largestBase table v) 0 < 2 ^ extra.getD (largestBase table v) 0 := by
  obtain ⟨hlt, -, hmax⟩ := largestBase_isGreatest hs hne h0
  have hreach := hr _ hlt
  have hnext : v < (table ++ [bound]).getD (largestBase table v + 1) 0 := by
    rcases Nat.lt_or_eq_of_le (Nat.succ_le_of_lt hlt) with h | h
    · rw [List.getD_append _ _ _ _ h]
      exact Nat.lt_of_not_le fun hle => Nat.not_succ_le_self _ (hmax _ h hle)
    · rw [Nat.succ_eq_add_one] at h
      simpa [h] using hv
  have hpow := Nat.two_pow_pos (extra.getD (largestBase table v) 0)
  omega

end

/-! ### The two tables of R112 and R114 -/

theorem lenBaseTable_pairwise : lenBaseTable.Pairwise (· ≤ ·) := by decide

theorem distBaseTable_pairwise : distBaseTable.Pairwise (· ≤ ·) := by decide

theorem lenExtra_reaches : ExtraReaches lenBaseTable lenExtraTable 259 := by unfold ExtraReaches; decide

theorem distExtra_reaches : ExtraReaches distBaseTable distExtraTable 32769 := by unfold ExtraReaches; decide

/-- Settles O40: both tables rise and have no gap that the extra bits do not reach over. -/
theorem symbolSelection : Obligations.SymbolSelection := by
  refine ⟨fun len hlo hhi => ?_, fun dist hlo hhi => ?_, by decide⟩
  · obtain ⟨hlt, hle, hmax⟩ := largestBase_isGreatest lenBaseTable_pairwise (by decide) hlo
    exact ⟨hlt, hle, hmax,
      sub_largestBase_lt lenBaseTable_pairwise (by decide) hlo lenExtra_reaches (Nat.lt_succ_of_le hhi)⟩
  · obtain ⟨hlt, hle, hmax⟩ := largestBase_isGreatest distBaseTable_pairwise (by decide) hlo
    exact ⟨hlt, hle, hmax,
      sub_largestBase_lt distBaseTable_pairwise (by decide) hlo distExtra_reaches (Nat.lt_succ_of_le hhi)⟩

/-! ### Padding to the byte boundary (R143) -/

/-- The writer's bit count is how far the bits written go past the last byte boundary (R27). -/
theorem BW.cnt_eq_length_bits_mod {bw : BW} (h : bw.Ok) : bw.cnt = bw.bits.length % 8 := by
  have hcnt := h.1
  rw [BW.length_bits]
  omega

/-- `ALIGN` pads after any number of bits that ends where the writer stands. -/
theorem BW.bits_align_padBits {bw : BW} (h : bw.Ok) {n : Nat} (hn : n % 8 = bw.bits.length % 8) :
    bw.align.bits = bw.bits ++ padBits n := by
  rw [BW.bits_align h, padBits, hn, BW.cnt_eq_length_bits_mod h]

theorem BW.acc_align {bw : BW} (h : bw.Ok) : bw.align.acc = 0 := BW.acc_of_cnt_zero (BW.align_ok h) (BW.cnt_align bw)

/-! ### The bits of a token (R211, R213) -/

theorem encodeLiteral_ok {bw : BW} (h : bw.Ok) (b : Byte) : (encodeLiteral b bw).Ok := heLitlen_ok h _

theorem bits_encodeLiteral {bw : BW} (h : bw.Ok) (b : Byte) :
    (encodeLiteral b bw).bits = bw.bits ++ tokenStream (.lit b) := bits_heLitlen h _

theorem encodeMatch_ok {bw : BW} (h : bw.Ok) (len dist : Nat) : (encodeMatch len dist bw).Ok :=
  BW.writeBits_ok (heDist_ok (BW.writeBits_ok (heLitlen_ok h _) _ _) _) _ _

theorem bits_encodeMatch {bw : BW} (h : bw.Ok) (len dist : Nat) :
    (encodeMatch len dist bw).bits = bw.bits ++ tokenStream (.mtch len dist) := by
  have hlen := heLitlen_ok h (257 + lenIndex len)
  have hlenExtra := BW.writeBits_ok hlen (len - lenBase (lenIndex len)) (lenExtra (lenIndex len))
  have hdist := heDist_ok hlenExtra (distIndex dist)
  rw [encodeMatch, BW.bits_writeBits hdist, bits_heDist hlenExtra, BW.bits_writeBits hlen, bits_heLitlen h, tokenStream]
  simp only [List.append_assoc]

theorem encodeToken_ok {bw : BW} (h : bw.Ok) (t : Token) : (encodeToken bw t).Ok := by
  cases t with
  | lit b => exact encodeLiteral_ok h b
  | mtch len dist => exact encodeMatch_ok h len dist

theorem bits_encodeToken {bw : BW} (h : bw.Ok) (t : Token) : (encodeToken bw t).bits = bw.bits ++ tokenStream t := by
  cases t with
  | lit b => exact bits_encodeLiteral h b
  | mtch len dist => exact bits_encodeMatch h len dist

theorem foldl_encodeToken_ok {bw : BW} (h : bw.Ok) (ts : List Token) : (ts.foldl encodeToken bw).Ok := by
  induction ts generalizing bw with
  | nil => exact h
  | cons t ts ih => exact ih (encodeToken_ok h t)

theorem bits_foldl_encodeToken {bw : BW} (h : bw.Ok) (ts : List Token) :
    (ts.foldl encodeToken bw).bits = bw.bits ++ ts.flatMap tokenStream := by
  induction ts generalizing bw with
  | nil => exact (List.append_nil _).symm
  | cons t ts ih =>
    rw [List.foldl_cons, ih (encodeToken_ok h t), bits_encodeToken h, List.flatMap_cons, List.append_assoc]

/-! ### The end of a block and the block (R214, R210) -/

theorem codeBits_eob : codeBits (litlenCode 256).1 (litlenCode 256).2 = List.replicate 7 false := by decide

@[simp] theorem cnt_encodeEob (bw : BW) : (encodeEob bw).cnt = 0 := BW.cnt_align _

theorem acc_encodeEob {bw : BW} (h : bw.Ok) : (encodeEob bw).acc = 0 := BW.acc_align (heLitlen_ok h 256)

/-- `ENC.EOB` appends the end-of-block code and pads; `n` is any number of bits that ends where the writer stands. -/
theorem bits_encodeEob {bw : BW} (h : bw.Ok) {n : Nat} (hn : n % 8 = bw.bits.length % 8) :
    (encodeEob bw).bits = bw.bits ++ List.replicate 7 false ++ padBits (n + 7) := by
  have hbits : (heLitlen 256 bw).bits = bw.bits ++ List.replicate 7 false := by rw [bits_heLitlen h, codeBits_eob]
  have hpad : (n + 7) % 8 = (heLitlen 256 bw).bits.length % 8 := by
    rw [hbits, List.length_append, List.length_replicate]
    omega
  rw [encodeEob, BW.bits_align_padBits (heLitlen_ok h 256) hpad, hbits]

/-- The header of a final fixed-Huffman block: BFINAL = 1, and BTYPE = 1 with its low bit first. -/
theorem bits_finalFixedHeader {bw : BW} (h : bw.Ok) :
    ((bw.writeBits 1 1).writeBits 1 2).bits = bw.bits ++ [true, true, false] := by
  have hheader : lowBits 1 1 ++ lowBits 1 2 = [true, true, false] := by decide
  rw [BW.bits_writeBits (BW.writeBits_ok h 1 1), BW.bits_writeBits h, List.append_assoc, hheader]

/-- A block's bits up to its end-of-block code. -/
theorem bits_blockTokens {bw : BW} (h : bw.Ok) (ts : List Token) :
    (ts.foldl encodeToken ((bw.writeBits 1 1).writeBits 1 2)).bits =
      bw.bits ++ [true, true, false] ++ ts.flatMap tokenStream := by
  rw [bits_foldl_encodeToken (BW.writeBits_ok (BW.writeBits_ok h 1 1) 1 2), bits_finalFixedHeader h]

theorem blockTokens_ok {bw : BW} (h : bw.Ok) (ts : List Token) :
    (ts.foldl encodeToken ((bw.writeBits 1 1).writeBits 1 2)).Ok :=
  foldl_encodeToken_ok (BW.writeBits_ok (BW.writeBits_ok h 1 1) 1 2) ts

@[simp] theorem cnt_encodeBlockBits (ts : List Token) (bw : BW) : (encodeBlockBits ts bw).cnt = 0 := cnt_encodeEob _

theorem acc_encodeBlockBits {bw : BW} (h : bw.Ok) (ts : List Token) : (encodeBlockBits ts bw).acc = 0 :=
  acc_encodeEob (blockTokens_ok h ts)

/-- From a byte boundary a block's padding is that of its own bits. -/
theorem bits_encodeBlockBits {bw : BW} (h : bw.Ok) (hc : bw.cnt = 0) (ts : List Token) :
    (encodeBlockBits ts bw).bits =
      bw.bits ++ [true, true, false] ++ bodyStream ts ++ padBits (3 + (bodyStream ts).length) := by
  have haligned := BW.cnt_eq_length_bits_mod h
  have hn : (3 + (ts.flatMap tokenStream).length) % 8 =
      (ts.foldl encodeToken ((bw.writeBits 1 1).writeBits 1 2)).bits.length % 8 := by
    rw [bits_blockTokens h, List.length_append, List.length_append, List.length_cons, List.length_cons,
      List.length_singleton]
    omega
  rw [encodeBlockBits, bits_encodeEob (blockTokens_ok h ts) hn, bits_blockTokens h, bodyStream, List.length_append,
    List.length_replicate, Nat.add_assoc]
  simp only [List.append_assoc]

/-! ### What the four instructions answer -/

theorem matchOk_of_range {len dist : Nat} (hlo : 3 ≤ len) (hhi : len ≤ 258) (dlo : 1 ≤ dist) (dhi : dist ≤ 32768) :
    matchOk len dist = true := by
  simp [matchOk, hlo, hhi, dlo, dhi]

theorem exec_encLiteral (s : State) (b : Byte) :
    exec (.encLiteral b) s = .next { s with bw := encodeLiteral b s.bw } := rfl

theorem exec_encMatch (s : State) {len dist : Nat} (hm : matchOk len dist = true) :
    exec (.encMatch len dist) s = .next { s with bw := encodeMatch len dist s.bw } := if_pos hm

theorem exec_encEob (s : State) : exec .encEob s = .next { s with bw := encodeEob s.bw } := rfl

theorem exec_encBlock {s : State} (hc : s.bw.cnt = 0) (hq : s.tk.queue.all Token.ok = true) :
    exec .encBlock s =
      .next { s with bw := encodeBlockBits s.tk.queue s.bw, tk := { s.tk with queue := [] } } :=
  (if_neg (not_not_intro hc)).trans (if_pos hq)

/-! ### The statements -/

/-- Settles O41: the lemma of each operation says which bits it appends, and its answer changes the writer alone. -/
theorem encoderWritesTheStreamFormat : Obligations.EncoderWritesTheStreamFormat := by
  refine fun s hok => ⟨fun b => ?_, fun len dist hlo hhi dlo dhi => ?_, ?_⟩
  · exact ⟨_, exec_encLiteral s b, encodeLiteral_ok hok b, bits_encodeLiteral hok b⟩
  · exact ⟨_, exec_encMatch s (matchOk_of_range hlo hhi dlo dhi), encodeMatch_ok hok len dist,
      bits_encodeMatch hok len dist⟩
  · have hn : s.bw.cnt % 8 = s.bw.bits.length % 8 := by rw [← BW.cnt_eq_length_bits_mod hok, Nat.mod_eq_of_lt hok.1]
    exact ⟨_, exec_encEob s, cnt_encodeEob _, acc_encodeEob hok, bits_encodeEob hok hn⟩

/-- Settles O42: the header, the tokens (`bits_foldl_encodeToken`, by induction on the queue) and the end of block in turn. -/
theorem encodeBlock : Obligations.EncodeBlock := fun _ hok hc hq =>
  ⟨_, exec_encBlock hc hq, cnt_encodeBlockBits _ _, acc_encodeBlockBits hok _, bits_encodeBlockBits hok hc _⟩

end Sys2Proof.Machine
end

section
/-! The block decoder: a block's header, stored blocks and the copy of a match (spec/45_deflate_fixed_decoder.md R231, R237,
R238, R244). -/

namespace Sys2Proof.Machine

/-! ### Errors of the decoder as the host sees them (R320) -/

theorem statusError_eq (e : ErrKind) : statusError e = e.code ++ 0x6#4 := by cases e <;> decide

theorem statusError_done (e : ErrKind) : (statusError e).getLsbD 1 = true := by cases e <;> decide

theorem raiseError_failed (e : ErrKind) (s : State) : (raiseError e s).Failed e :=
  ⟨statusError_eq e, rfl, rfl, statusError_done e⟩

theorem runInflater_failed {α : Type} {r : Res Inflater α} {e : ErrKind} {d : Inflater} (hr : r = .raise e d) (s : State)
    (k : α → State → StepResult) : ∃ t, runInflater r s k = .next t ∧ t.Failed e :=
  ⟨_, by rw [hr, runInflater_raise], raiseError_failed e _⟩

/-! ### Reads of the decoder, by how many bits are left (R146) -/

theorem BR.past_past (br : BR) (m h n h' : Nat) : (br.past m h).past n h' = br.past (m + n) h' := by
  simp only [BR.past, Nat.add_assoc]

theorem BR.avail_past (br : BR) (n h : Nat) : (br.past n h).avail = br.avail - n := by
  simp only [BR.avail, BR.past, Nat.sub_add_eq]

theorem onReader_readBits_of_le_avail {d : Inflater} {n : Nat} (ha : n ≤ d.br.avail) :
    ∃ h, onReader (·.readBits n) d = .ok (d.br.peekValue n) { d with br := d.br.past n h } := by
  rcases d.br.readBits_cases n with ⟨-, hr⟩ | ⟨hlt, -⟩
  · exact ⟨(d.br.fill n).held - n, by rw [onReader, hr, BR.fill_advance_eq_past]⟩
  · exact absurd ha (Nat.not_le.mpr hlt)

theorem onReader_readBits_of_avail_lt {d : Inflater} {n : Nat} (ha : d.br.avail < n) :
    onReader (·.readBits n) d = .raise .truncated d := by
  rcases d.br.readBits_cases n with ⟨hle, -⟩ | ⟨-, hr⟩
  · exact absurd ha (Nat.not_lt.mpr hle)
  · rw [onReader, hr]

/-- Two reads in a row fail when the two together ask for more than is left, whichever of them it is. -/
theorem onReader_readBits_twice_of_avail_lt {α : Type} {d : Inflater} {m n : Nat} (ha : d.br.avail < m + n)
    {g : Nat → Inflater → Inflater} (hg : ∀ v d', (g v d').br = d'.br) (f : Nat → Nat → Inflater → Res Inflater α) :
    ∃ d', ((onReader (·.readBits m) d).bind fun v d =>
      (onReader (·.readBits n) (g v d)).bind (f v)) = .raise .truncated d' := by
  rcases Nat.lt_or_ge d.br.avail m with hm | hm
  · exact ⟨d, by rw [onReader_readBits_of_avail_lt hm, Res.bind_raise]⟩
  · obtain ⟨h, hr⟩ := onReader_readBits_of_le_avail hm
    have hn : (g (d.br.peekValue m) { d with br := d.br.past m h }).br.avail < n := by
      rw [hg, BR.avail_past]
      omega
    exact ⟨_, by rw [hr, Res.bind_ok, onReader_readBits_of_avail_lt hn, Res.bind_raise]⟩

/-! ### The block header (R231) -/

theorem readBlockHeader_of_le_avail {d : Inflater} (ha : 3 ≤ d.br.avail) :
    ∃ h, readBlockHeader d = .ok () { d with
      br := d.br.past 3 h
      bfinal := BitVec.ofNat 1 (d.br.peekValue 1)
      btype := BitVec.ofNat 2 (bitsAt d.br.src (d.br.bitpos + 1) 2) } := by
  obtain ⟨h, hr⟩ := onReader_readBits_of_le_avail (d := d) (n := 1) (by omega)
  obtain ⟨h', hr'⟩ := onReader_readBits_of_le_avail (n := 2)
    (d := { d with br := d.br.past 1 h, bfinal := BitVec.ofNat 1 (d.br.peekValue 1) }) (by rw [BR.avail_past]; omega)
  refine ⟨h', ?_⟩
  rw [readBlockHeader, hr, Res.bind_ok, hr', Res.bind_ok, BR.past_past]
  rfl

theorem readBlockHeader_of_avail_lt {d : Inflater} (ha : d.br.avail < 3) :
    ∃ d', readBlockHeader d = .raise .truncated d' :=
  onReader_readBits_twice_of_avail_lt (m := 1) (n := 2) ha (g := fun f d => { d with bfinal := BitVec.ofNat 1 f })
    (fun _ _ => rfl) _

/-- Bit `i` of a register of `w` bits that holds a read of `w` bits is stream bit `pos + i`. -/
theorem getLsbD_ofNat_bitsAt (src : List Byte) (pos : Nat) {w i : Nat} (hi : i < w) :
    (BitVec.ofNat w (bitsAt src pos w)).getLsbD i = bitAt src (pos + i) := by
  rw [BitVec.getLsbD_ofNat, bitsAt_testBit, decide_eq_true hi, Bool.true_and, Bool.true_and]

theorem ofNat_bitsAt_one (src : List Byte) (pos : Nat) :
    BitVec.ofNat 1 (bitsAt src pos 1) = BitVec.ofBool (bitAt src pos) := by
  rw [bitsAt_succ, bitsAt_zero]
  cases bitAt src pos <;> rfl

theorem exec_decBlkhdr (s : State) :
    exec .decBlkhdr s = runInflater (readBlockHeader s.inflater) s fun _ t => .next t := rfl

/-- Settles O44: one read of one bit and one of two, each bit of a latched field being the stream bit at its place. -/
theorem blockHeader : Obligations.BlockHeader := by
  refine fun s => ⟨fun ha => ?_, fun ha => ?_⟩
  · obtain ⟨h, hr⟩ := readBlockHeader_of_le_avail (d := s.inflater) ha
    exact ⟨_, _, h, by rw [exec_decBlkhdr, hr, runInflater_ok]; rfl, ofNat_bitsAt_one _ _,
      getLsbD_ofNat_bitsAt _ _ (by decide), getLsbD_ofNat_bitsAt _ _ (by decide)⟩
  · obtain ⟨d, hr⟩ := readBlockHeader_of_avail_lt (d := s.inflater) ha
    exact runInflater_failed hr s _

/-! ### Whole bytes at a byte boundary (R11, R65) -/

theorem bitAt_byte (src : List Byte) (k : Nat) {i : Nat} (hi : i < 8) :
    bitAt src (8 * k + i) = (src.getD k 0).getLsbD i := by
  rw [bitAt, Nat.mul_add_div (by decide), Nat.div_eq_of_lt hi, Nat.add_zero, Nat.mul_add_mod, Nat.mod_eq_of_lt hi]

/-- A read of eight bits from a byte boundary is the byte there. -/
theorem bitsAt_byte (src : List Byte) (k : Nat) : bitsAt src (8 * k) 8 = (src.getD k 0).toNat := by
  refine Nat.eq_of_testBit_eq fun i => ?_
  rw [bitsAt_testBit, BitVec.testBit_toNat]
  by_cases hi : i < 8
  · rw [bitAt_byte src k hi, decide_eq_true hi, Bool.true_and]
  · rw [decide_eq_false hi, Bool.false_and, BitVec.getLsbD_of_ge _ _ (Nat.le_of_not_lt hi)]

/-- A read of whole bytes from a byte boundary is their little-endian integer. -/
theorem bitsAt_append_bytes (before bs rest : List Byte) :
    bitsAt (before ++ (bs ++ rest)) (8 * before.length) (8 * bs.length) = leNat bs := by
  induction bs generalizing before with
  | nil => rfl
  | cons b bs ih =>
    have hrest := ih (before ++ [b])
    rw [List.append_assoc, List.singleton_append, List.length_append, List.length_singleton, Nat.mul_succ] at hrest
    rw [List.length_cons, Nat.mul_succ, Nat.add_comm (8 * bs.length), bitsAt_add, bitsAt_byte, List.cons_append, hrest,
      leNat]
    simp

/-- The reader stands at a byte boundary, and these are the bytes from there to the end of its source. -/
def BR.AtBytes (br : BR) (bs : List Byte) : Prop :=
  ∃ before : List Byte, br.src = before ++ bs ∧ br.bitpos = 8 * before.length

theorem BR.AtBytes.avail {br : BR} {bs : List Byte} (h : br.AtBytes bs) : br.avail = 8 * bs.length := by
  obtain ⟨before, hsrc, hpos⟩ := h
  rw [BR.avail, hsrc, hpos, List.length_append]
  omega

theorem BR.AtBytes.past {br : BR} {bs rest : List Byte} (hb : br.AtBytes (bs ++ rest)) (h : Nat) :
    (br.past (8 * bs.length) h).AtBytes rest := by
  obtain ⟨before, hsrc, hpos⟩ := hb
  refine ⟨before ++ bs, by rw [BR.past, hsrc, List.append_assoc], ?_⟩
  rw [BR.past, hpos, List.length_append, Nat.mul_add]

/-- A read of whole bytes, in the decoder: their little-endian integer, and the reader after them. -/
theorem BR.AtBytes.onReader_readBits {d : Inflater} {bs rest : List Byte} (hb : d.br.AtBytes (bs ++ rest)) :
    ∃ h, onReader (·.readBits (8 * bs.length)) d = .ok (leNat bs) { d with br := d.br.past (8 * bs.length) h } := by
  have ha : 8 * bs.length ≤ d.br.avail := by rw [hb.avail, List.length_append]; omega
  obtain ⟨h, hr⟩ := onReader_readBits_of_le_avail ha
  obtain ⟨before, hsrc, hpos⟩ := hb
  exact ⟨h, by rw [hr, BR.peekValue, hsrc, hpos, bitsAt_append_bytes]⟩

/-! ### The stored copy (R238) -/

/-- The copy reads the data bytes one by one and appends them. -/
theorem storedCopy_of_data {d : Inflater} {data rest : List Byte} (hb : d.br.AtBytes (data ++ rest)) :
    ∃ h, storedCopy d data.length =
      .ok () { d with br := d.br.past (8 * data.length) h, out := d.out ++ data } := by
  induction data generalizing d with
  | nil => exact ⟨d.br.held, by simp [storedCopy, BR.past]⟩
  | cons b data ih =>
    obtain ⟨h, hr⟩ := BR.AtBytes.onReader_readBits (bs := [b]) hb
    obtain ⟨h', hcopy⟩ := ih (d := Inflater.append { d with br := d.br.past 8 h } b) (BR.AtBytes.past (bs := [b]) hb h)
    have hbyte : BitVec.ofNat 8 (leNat [b]) = b := by simp [leNat]
    rw [List.length_singleton, Nat.mul_one] at hr
    refine ⟨h', ?_⟩
    rw [List.length_cons, storedCopy, hr, Res.bind_ok, hbyte, hcopy]
    simp only [Inflater.append, BR.past_past, List.append_assoc, List.singleton_append, Nat.mul_succ, Nat.add_comm 8]

/-- The copy fails when fewer bytes are left than it asks for: it meets the end of the source. -/
theorem storedCopy_of_length_lt {d : Inflater} {data : List Byte} {k : Nat} (hb : d.br.AtBytes data)
    (hk : data.length < k) : ∃ d', storedCopy d k = .raise .truncated d' := by
  induction data generalizing d k with
  | nil =>
    obtain ⟨k, rfl⟩ := Nat.exists_eq_succ_of_ne_zero (Nat.ne_of_gt hk)
    have ha : d.br.avail < 8 := by rw [hb.avail]; decide
    exact ⟨d, by rw [storedCopy, onReader_readBits_of_avail_lt ha, Res.bind_raise]⟩
  | cons b data ih =>
    obtain ⟨k, rfl⟩ := Nat.exists_eq_succ_of_ne_zero (Nat.ne_zero_of_lt hk)
    obtain ⟨h, hr⟩ := BR.AtBytes.onReader_readBits (bs := [b]) hb
    rw [List.length_singleton, Nat.mul_one] at hr
    obtain ⟨d', hcopy⟩ := ih (d := Inflater.append { d with br := d.br.past 8 h } (BitVec.ofNat 8 (leNat [b])))
      (BR.AtBytes.past (bs := [b]) hb h) (Nat.lt_of_succ_lt_succ hk)
    exact ⟨d', by rw [storedCopy, hr, Res.bind_ok, hcopy]⟩

/-! ### The stored block (R237) -/

/-- R237's check compares `NLEN` with the complement of `LEN`. -/
theorem lenNlenOk_ofNat_iff {len nlen : Nat} (hl : len < 2 ^ 16) (hn : nlen < 2 ^ 16) :
    lenNlenOk (BitVec.ofNat 16 len) (BitVec.ofNat 16 nlen) = true ↔ nlen = 0xFFFF - len := by
  have hones : 0xFFFF#16 = BitVec.allOnes 16 := by decide
  rw [lenNlenOk, beq_iff_eq, hones, BitVec.xor_allOnes, ← BitVec.toNat_inj, BitVec.toNat_not, BitVec.toNat_ofNat,
    BitVec.toNat_ofNat, Nat.mod_eq_of_lt hl, Nat.mod_eq_of_lt hn]
  exact eq_comm

/-- Where `LEN` and `NLEN` follow the byte boundary, the block is the check of R237 and then the copy of R238. -/
theorem readStored_of_lengths {d : Inflater} {len nlen : Nat} {rest : List Byte} (hl : len < 2 ^ 16) (hn : nlen < 2 ^ 16)
    (hb : d.br.align.AtBytes (leBytes 2 len ++ (leBytes 2 nlen ++ rest))) :
    ∃ h, (d.br.align.past 32 h).AtBytes rest ∧
      readStored d = if nlen = 0xFFFF - len then storedCopy { d with br := d.br.align.past 32 h } len
        else .raise .lenNlen { d with br := d.br.align.past 32 h } := by
  obtain ⟨h, hr⟩ := BR.AtBytes.onReader_readBits (d := { d with br := d.br.align }) hb
  have hb' := hb.past h
  obtain ⟨h', hr'⟩ := BR.AtBytes.onReader_readBits (d := { d with br := d.br.align.past _ h }) hb'
  have hb'' := hb'.past h'
  rw [leNat_leBytes, Nat.mod_eq_of_lt hl, length_leBytes] at hr
  rw [leNat_leBytes, Nat.mod_eq_of_lt hn, length_leBytes, length_leBytes, BR.past_past] at hr'
  rw [length_leBytes, length_leBytes, BR.past_past] at hb''
  refine ⟨h', hb'', ?_⟩
  rw [readStored, hr, Res.bind_ok, hr', Res.bind_ok]
  exact if_congr (lenNlenOk_ofNat_iff hl hn) rfl rfl

theorem readStored_of_avail_lt {d : Inflater} (ha : d.br.align.avail < 32) :
    ∃ d', readStored d = .raise .truncated d' :=
  onReader_readBits_twice_of_avail_lt (m := 16) (n := 16) (d := { d with br := d.br.align }) ha (g := fun _ d => d)
    (fun _ _ => rfl) _

theorem BR.bitpos_align_of_boundary {br : BR} {k : Nat} (hlt : 8 * k < br.bitpos + 8) (hle : br.bitpos ≤ 8 * k) :
    br.align.bitpos = 8 * k := by
  simp only [BR.align]
  omega

theorem exec_decStored (s : State) : exec .decStored s = runInflater (readStored s.inflater) s fun _ t => .next t := rfl

/-- Settles O45: `LEN` and `NLEN` are read from the byte boundary (`readStored_of_lengths`), and the copy after them is by
induction on the data. -/
theorem storedBlocks : Obligations.StoredBlocks := by
  intro s before hlt hle
  have hpos : s.br.align.bitpos = 8 * before.length := BR.bitpos_align_of_boundary hlt hle
  have hat : ∀ {len nlen : Nat} {rest : List Byte}, s.br.src = before ++ leBytes 2 len ++ leBytes 2 nlen ++ rest →
      s.br.align.AtBytes (leBytes 2 len ++ (leBytes 2 nlen ++ rest)) :=
    fun hsrc => ⟨before, by simpa only [BR.src_align, List.append_assoc] using hsrc, hpos⟩
  refine ⟨fun data rest hdata hsrc => ?_, fun len nlen rest hlen hnlen hne hsrc => ?_,
    fun len data hlen hshort hsrc => ?_, fun hshort => ?_⟩
  · obtain ⟨h, hb, hr⟩ := readStored_of_lengths (d := s.inflater) hdata (by omega)
      (hat (hsrc.trans (List.append_assoc _ _ _)))
    obtain ⟨h', hcopy⟩ := storedCopy_of_data (d := { s.inflater with br := s.br.align.past 32 h }) hb
    have hend : (s.br.align.past 32 h).past (8 * data.length) h' =
        ⟨s.br.src, 8 * (before.length + 4 + data.length), h'⟩ := by
      rw [BR.past_past, BR.past, hpos, BR.src_align]
      congr 1
      omega
    rw [hend] at hcopy
    exact ⟨h', by rw [exec_decStored, (hr.trans (if_pos rfl)).trans hcopy, runInflater_ok]; rfl⟩
  · obtain ⟨h, -, hr⟩ := readStored_of_lengths (d := s.inflater) hlen hnlen (hat hsrc)
    exact runInflater_failed (hr.trans (if_neg hne)) s _
  · obtain ⟨h, hb, hr⟩ := readStored_of_lengths (d := s.inflater) hlen (by omega) (hat hsrc)
    obtain ⟨d, hcopy⟩ := storedCopy_of_length_lt (d := { s.inflater with br := s.br.align.past 32 h }) hb hshort
    exact runInflater_failed ((hr.trans (if_pos rfl)).trans hcopy) s _
  · have ha : s.br.align.avail < 32 := by
      rw [BR.avail, hpos, BR.src_align]
      omega
    obtain ⟨d, hr⟩ := readStored_of_avail_lt (d := s.inflater) ha
    exact runInflater_failed hr s _

/-! ### The copy of a match (R244) -/

/-- Once a period's first byte is appended, the rest of the cyclic bytes is the cyclic bytes of the longer output. -/
theorem cyclic_succ {out : List Byte} {dist : Nat} (hpos : 1 ≤ dist) (hle : dist ≤ out.length) (len : Nat) :
    cyclic out dist (len + 1) =
      out.getD (out.length - dist) 0 :: cyclic (out ++ [out.getD (out.length - dist) 0]) dist len := by
  rw [cyclic, cyclic, List.range_succ_eq_map, List.map_cons, List.map_map, Nat.zero_mod, Nat.add_zero]
  refine congrArg _ (List.map_congr_left fun k _ => ?_)
  have hk := Nat.mod_lt k hpos
  rw [Function.comp_apply, List.length_append, List.length_singleton, Nat.succ_eq_add_one, ← Nat.mod_add_mod]
  by_cases hlast : k % dist + 1 = dist
  · have hidx : out.length + 1 - dist + k % dist = out.length := by omega
    rw [hlast, Nat.mod_self, hidx, List.getD_append_right _ _ _ _ (Nat.le_refl _), Nat.sub_self, Nat.add_zero]
    rfl
  · have hidx : out.length + 1 - dist + k % dist = out.length - dist + (k % dist + 1) := by omega
    rw [Nat.mod_eq_of_lt (by omega), hidx, List.getD_append _ _ _ _ (by omega)]

theorem copyMatch_eq_cyclic {out : List Byte} {dist : Nat} (hpos : 1 ≤ dist) (hle : dist ≤ out.length) (len : Nat) :
    copyMatch out dist len = out ++ cyclic out dist len := by
  induction len generalizing out with
  | zero => exact (List.append_nil out).symm
  | succ len ih =>
    rw [copyMatch, ih (by rw [List.length_append]; omega), cyclic_succ hpos hle, List.append_assoc, List.singleton_append]

theorem exec_decCopy {s : State} {len dist : Nat} (hm : matchOk len dist = true) (hle : dist ≤ s.out.length) :
    exec (.decCopy len dist) s = .next { s with out := copyMatch s.out dist len } := if_pos ⟨hm, hle⟩

/-- Settles O49: by induction on the length, appending one byte of a period leaves the same period (`cyclic_succ`). -/
theorem copyIsCyclic : Obligations.CopyIsCyclic := fun s len dist hlo hhi dlo dhi hle => by
  rw [exec_decCopy (matchOk_of_range hlo hhi dlo dhi) hle, copyMatch_eq_cyclic dlo hle]

end Sys2Proof.Machine
end

section
/-! The tokens of an input: what a search finds is a match of the input with itself, so the tokens spell the input out
(spec/43_lz77_tokenizer.md R192 to R199). -/

namespace Sys2Proof.Machine

/-! ### The chains (R192) -/

/-- The chains of `HEAD` and `PREV` lead from inserted positions to earlier and earlier ones. -/
structure TK.Falling (tk : TK) : Prop where
  wf : tk.Wf
  head_lt : ∀ k c, tk.head.get k = some c → c < tk.ins
  prev_lt : ∀ c c', tk.prev.get c = some c' → c' < c

theorem TK.start_falling (queue : List Token) : (TK.start queue).Falling :=
  { wf := TK.start_wf queue, head_lt := nofun, prev_lt := nofun }

/-- What `TK.INSERT` can do: the cursor becomes the head of its chain and links to the head before it, or, where it is not
hashable, only moves on (R192). -/
theorem TK.insert_cases (d : List Byte) (tk : TK) :
    tk.insert d =
        { tk with
          prev := tk.prev.assign tk.ins (tk.head.get (keyAt d tk.ins))
          head := tk.head.put (keyAt d tk.ins) tk.ins
          ins := tk.ins + 1 } ∨
      tk.insert d = { tk with ins := tk.ins + 1 } := by
  unfold TK.insert
  by_cases h : hashable d tk.ins = true
  · exact .inl (if_pos h)
  · exact .inr (if_neg h)

theorem TK.insert_falling {tk : TK} (d : List Byte) (h : tk.Falling) : (tk.insert d).Falling := by
  have hwf := TK.insert_wf d h.wf
  rcases TK.insert_cases d tk with he | he <;> rw [he] at hwf ⊢
  · refine ⟨hwf, fun k c hc => ?_, fun c c' hc => ?_⟩
    · rw [Cells.get_put] at hc
      split at hc
      · obtain rfl := Option.some.inj hc
        exact Nat.lt_succ_self _
      · exact Nat.lt_succ_of_lt (h.head_lt k c hc)
    · rw [Cells.get_assign _ _ _ h.wf.2] at hc
      split at hc
      · subst c
        exact h.head_lt _ c' hc
      · exact h.prev_lt c c' hc
  · exact ⟨hwf, fun k c hc => Nat.lt_succ_of_lt (h.head_lt k c hc), h.prev_lt⟩

theorem TK.insertMany_falling {tk : TK} (d : List Byte) (k : Nat) (h : tk.Falling) : (tk.insertMany d k).Falling := by
  induction k generalizing tk with
  | zero => exact h
  | succ k ih => exact ih (TK.insert_falling d h)

theorem TK.insertUpto_falling {tk : TK} (d : List Byte) (q : Nat) (h : tk.Falling) : (tk.insertUpto d q).Falling :=
  TK.insertMany_falling d _ h

/-! ### What a search finds (R193) -/

/-- A length and a distance that R193 may answer at `q`: the bytes `dist` back agree with those at `q`, within the window and
the input. -/
structure MatchAt (d : List Byte) (q : Nat) (m : Nat × Nat) : Prop where
  dist_pos : 1 ≤ m.2
  dist_window : m.2 ≤ Config.windowSize
  dist_le : m.2 ≤ q
  len_le : m.1 ≤ longest d q
  agrees : agree d (q - m.2) q m.1

/-- The inner loop of R193 stops where the bytes differ or its bound is reached. -/
theorem matchLen_agree {d : List Byte} {c q l : Nat} (fuel : Nat) (h : agree d c q l) :
    matchLen d c q l fuel ≤ l + fuel ∧ agree d c q (matchLen d c q l fuel) := by
  induction fuel generalizing l with
  | zero => exact ⟨Nat.le_refl l, h⟩
  | succ fuel ih =>
    rw [matchLen]
    split
    · rename_i heq
      have hsucc : agree d c q (l + 1) := fun i hi =>
        (Nat.lt_succ_iff_lt_or_eq.mp hi).elim (h i) fun hil => hil ▸ heq
      obtain ⟨hle, hag⟩ := ih hsucc
      exact ⟨by omega, hag⟩
    · exact ⟨Nat.le_add_right l _, h⟩

/-- An earlier position within the window gives a match of however many bytes agree there. -/
theorem matchAt_candidate {d : List Byte} {c q : Nat} (hc : c < q) (hw : ¬Config.windowSize < q - c) :
    MatchAt d q (matchLen d c q 0 (longest d q), q - c) := by
  have hnone : agree d c q 0 := fun _ hi => absurd hi (Nat.not_lt_zero _)
  obtain ⟨hle, hag⟩ := matchLen_agree (longest d q) hnone
  have hback : q - (q - c) = c := Nat.sub_sub_self hc.le
  exact ⟨Nat.sub_pos_of_lt hc, Nat.le_of_not_lt hw, Nat.sub_le q c, hle.trans_eq (Nat.zero_add _),
    by simpa only [hback] using hag⟩

/-- Down a falling chain from below `q`, the walk answers the best it began with or what one of its candidates gives. -/
theorem walkChain_induction {d : List Byte} {prev : Cells Nat} {q maxLen : Nat} {P : Nat × Nat → Prop}
    (hfall : ∀ c c', prev.get c = some c' → c' < c)
    (hcand : ∀ c < q, ¬Config.windowSize < q - c → P (matchLen d c q 0 maxLen, q - c))
    (walked : Nat) {start : Option Nat} {best : Nat × Nat} (hstart : ∀ c, start = some c → c < q) (hbest : P best) :
    P (walkChain d prev q maxLen walked start best) := by
  induction walked generalizing start best with
  | zero => exact hbest
  | succ walked ih =>
    cases start with
    | none => exact hbest
    | some c =>
      have hc : c < q := hstart c rfl
      have hprev : ∀ c', prev.get c = some c' → c' < q := fun c' h => (hfall c c' h).trans hc
      rw [walkChain]
      by_cases hw : Config.windowSize < q - c
      · exact (if_pos hw).symm ▸ hbest
      · have hnext : P (if best.1 < matchLen d c q 0 maxLen then (matchLen d c q 0 maxLen, q - c) else best) := by
          split
          · exact hcand c hc hw
          · exact hbest
        rw [if_neg hw]
        simp only
        split
        · split
          · exact hnext
          · exact ih hprev hnext
        · exact ih hprev hbest

/-- A search starts below `q`, whatever positions are in the chains (R353). -/
theorem TK.Falling.firstBelow_lt {tk : TK} (h : tk.Falling) {q k c : Nat} (hq : q ≤ tk.ins)
    (hc : firstBelow tk.prev q (tk.ins - q) (tk.head.get k) = some c) : c < q := by
  cases hh : tk.head.get k with
  | none =>
    rw [hh] at hc
    generalize tk.ins - q = fuel at hc
    cases fuel <;> cases hc
  | some c0 =>
    rw [hh] at hc
    have hc0 := h.head_lt k c0 hh
    exact Machine.firstBelow_lt h.prev_lt (by omega) hc

/-- What a search answers is a match of at least three bytes: a shorter one is not answered (R193). -/
theorem searchMatch_matchAt {d : List Byte} {tk : TK} {q : Nat} {m : Nat × Nat} (h : tk.Falling) (hq : q ≤ tk.ins)
    (hm : searchMatch d tk q = some m) : 3 ≤ m.1 ∧ MatchAt d q m := by
  have hwalk := walkChain_induction (P := fun m => 3 ≤ m.1 → MatchAt d q m) h.prev_lt
    (fun c hc hw _ => matchAt_candidate hc hw) Config.maxChain (fun _ => h.firstBelow_lt (k := keyAt d q) hq)
    (fun (h : 3 ≤ (Config.minMatch - 1, 0).1) => absurd h (by decide))
  rw [searchMatch] at hm
  split at hm
  · obtain ⟨hlen, hbest⟩ := Option.ite_none_right_eq_some.mp hm
    obtain rfl := Option.some.inj hbest
    exact ⟨hlen, hwalk hlen⟩
  · cases hm

theorem findMatch_matchAt {d : List Byte} {tk : TK} {q : Nat} {m : Nat × Nat} (h : tk.Falling)
    (hm : (findMatch d tk q).1 = some m) : 3 ≤ m.1 ∧ MatchAt d q m :=
  searchMatch_matchAt (TK.insertUpto_falling d q h) (by rw [TK.ins_insertUpto]; exact Nat.le_max_right _ _) hm

/-! ### What a token spells (R199) -/

theorem expandFrom_append (o : List Byte) (ts us : List Token) :
    expandFrom o (ts ++ us) = (expandFrom o ts).bind (expandFrom · us) := by
  induction ts generalizing o with
  | nil => rfl
  | cons t ts ih =>
    cases t with
    | lit b => exact ih _
    | mtch len dist =>
      simp only [List.cons_append, expandFrom]
      split
      · exact ih _
      · rfl

theorem take_append_byteAt {d : List Byte} {p : Nat} (hp : p < d.length) : d.take p ++ [byteAt d p] = d.take (p + 1) := by
  rw [byteAt, List.getD_eq_getElem _ _ hp, List.take_append_getElem]

/-- Copying from `dist` back, where the bytes agree, goes on with the input (R244). -/
theorem copyMatch_take {d : List Byte} {p dist len : Nat} (hpos : 1 ≤ dist) (hle : dist ≤ p)
    (hend : p + len ≤ d.length) (hag : agree d (p - dist) p len) : copyMatch (d.take p) dist len = d.take (p + len) := by
  induction len generalizing p with
  | zero => rfl
  | succ len ih =>
    have hlen : (d.take p).length = p := List.length_take_of_le (by omega)
    have hbyte : (d.take p).getD ((d.take p).length - dist) 0 = byteAt d p := by
      rw [hlen, List.getD_eq_getElem?_getD, List.getElem?_take_of_lt (by omega), ← List.getD_eq_getElem?_getD]
      exact hag 0 (Nat.succ_pos len)
    have hrest : agree d (p + 1 - dist) (p + 1) len := fun i hi => by
      have := hag (i + 1) (Nat.succ_lt_succ hi)
      rwa [show p - dist + (i + 1) = p + 1 - dist + i by omega, show p + (i + 1) = p + 1 + i by omega] at this
    rw [copyMatch, hbyte, take_append_byteAt (by omega), ih (by omega) (by omega) hrest, Nat.add_right_comm, Nat.add_assoc]

/-- A token that R37 allows and that, after the first `p` bytes of the input, stands for the bytes there. -/
structure Token.SpellsAt (t : Token) (d : List Byte) (p : Nat) : Prop where
  ok : t.ok = true
  width_pos : 1 ≤ t.width
  fits : p + t.width ≤ d.length
  expands : expandFrom (d.take p) [t] = some (d.take (p + t.width))

theorem spellsAt_lit {d : List Byte} {p : Nat} (hp : p < d.length) : (Token.lit (byteAt d p)).SpellsAt d p :=
  ⟨rfl, Nat.le_refl 1, hp, congrArg some (take_append_byteAt hp)⟩

theorem spellsAt_mtch {d : List Byte} {p : Nat} {m : Nat × Nat} (hp : p < d.length) (hlen : 3 ≤ m.1) (h : MatchAt d p m) :
    (Token.mtch m.1 m.2).SpellsAt d p := by
  obtain ⟨hmax, hrest⟩ := Nat.le_min.mp h.len_le
  have hfits : p + m.1 ≤ d.length := by omega
  have hout : m.2 ≤ (d.take p).length := (List.length_take_of_le hp.le).symm ▸ h.dist_le
  refine ⟨matchOk_of_range hlen hmax h.dist_pos h.dist_window, by rw [Token.width]; omega, hfits, ?_⟩
  rw [expandFrom, if_pos hout, expandFrom, copyMatch_take h.dist_pos h.dist_le hfits h.agrees, Token.width]

/-! ### The tokenizer's loop (R196) -/

/-- What the loop of R196 keeps: the queue is valid tokens for the input up to `p`. -/
structure TK.Tokenizing (d : List Byte) (tk : TK) : Prop where
  falling : tk.Falling
  pos_le : tk.p ≤ d.length
  valid : ValidTokens (d.take tk.p) tk.queue

theorem TK.start_tokenizing (d : List Byte) : (TK.start []).Tokenizing d :=
  ⟨TK.start_falling [], Nat.zero_le _, rfl, rfl⟩

/-- A token that stands for the bytes at the position keeps it so, and the position moves on. -/
theorem TK.Tokenizing.emit {d : List Byte} {tk : TK} {t : Token} (h : tk.Tokenizing d) (ht : t.SpellsAt d tk.p) :
    (tk.emit t t.width).Tokenizing d ∧ tk.p < (tk.emit t t.width).p := by
  obtain ⟨hok, hexp⟩ := h.valid
  obtain ⟨hwf, hhead, hprev⟩ := h.falling
  refine ⟨⟨⟨hwf, hhead, hprev⟩, ht.fits, ?_, ?_⟩, Nat.lt_add_of_pos_right ht.width_pos⟩
  · simp [TK.emit, hok, ht.ok]
  · simp [TK.emit, expandFrom_append, hexp, ht.expands]

theorem TK.Tokenizing.insertUpto {d : List Byte} {tk : TK} (h : tk.Tokenizing d) (q : Nat) :
    (tk.insertUpto d q).Tokenizing d :=
  ⟨TK.insertUpto_falling d q h.falling, (TK.p_insertUpto d q tk).symm ▸ h.pos_le, by
    rw [TK.p_insertUpto, TK.queue_insertUpto]; exact h.valid⟩

/-- Each iteration emits one token that stands for the bytes at `p`. -/
theorem tokenizeStep_emits {d : List Byte} {tk : TK} (h : tk.Falling) (hp : tk.p < d.length) :
    ∃ tk' t, (tk' = tk.insertUpto d tk.p ∨ tk' = (tk.insertUpto d tk.p).insertUpto d (tk.p + 1)) ∧
      t.SpellsAt d tk.p ∧ tokenizeStep d tk = tk'.emit t t.width := by
  rcases tokenizeStep_cases d tk with ⟨tk', htk, he⟩ | ⟨tk', m, htk, hm, he⟩
  · exact ⟨tk', _, htk, spellsAt_lit hp, he⟩
  · obtain ⟨hlen, hmatch⟩ := findMatch_matchAt h hm
    exact ⟨tk', _, htk, spellsAt_mtch hp hlen hmatch, he⟩

theorem tokenizeStep_tokenizing {d : List Byte} {tk : TK} (h : tk.Tokenizing d) (hp : tk.p < d.length) :
    (tokenizeStep d tk).Tokenizing d ∧ tk.p < (tokenizeStep d tk).p := by
  obtain ⟨tk', t, htk, ht, he⟩ := tokenizeStep_emits h.falling hp
  have hpos : tk'.p = tk.p := by rcases htk with rfl | rfl <;> simp
  have htok : tk'.Tokenizing d := by
    rcases htk with rfl | rfl
    · exact h.insertUpto _
    · exact (h.insertUpto _).insertUpto _
  rw [he, ← hpos]
  exact htok.emit (hpos.symm ▸ ht)

/-- The loop ends at the end of the input: every iteration moves on. -/
theorem tokenizeLoop_tokenizing {d : List Byte} {tk : TK} (h : tk.Tokenizing d) {fuel : Nat}
    (hf : d.length ≤ tk.p + fuel) :
    (tokenizeLoop d tk fuel).Tokenizing d ∧ (tokenizeLoop d tk fuel).p = d.length := by
  induction fuel generalizing tk with
  | zero => exact ⟨h, Nat.le_antisymm h.pos_le hf⟩
  | succ fuel ih =>
    rw [tokenizeLoop]
    split
    · obtain ⟨hstep, hlt⟩ := tokenizeStep_tokenizing h ‹_›
      exact ih hstep (by omega)
    · exact ⟨h, Nat.le_antisymm h.pos_le (Nat.le_of_not_lt ‹_›)⟩

/-- R199 (a) to (c): the tokens of an input are valid for it. -/
theorem validTokens_tokenize (d : List Byte) : ValidTokens d (tokenize d) := by
  obtain ⟨hloop, hend⟩ := tokenizeLoop_tokenizing (TK.start_tokenizing d) (Nat.le_add_left d.length 0)
  have hvalid := hloop.valid
  rw [hend, List.take_length] at hvalid
  rw [tokenize, TK.tokenize, TK.queue_insertUpto]
  exact hvalid

end Sys2Proof.Machine
end

section
/-! A fixed-Huffman block read back: where the unread bits are the stream of valid tokens, the decoder reads them token by
token and copies out what they spell (spec/45_deflate_fixed_decoder.md R230, R239 to R247). -/

namespace Sys2Proof.Machine

/-! ### Operations that read given bits -/

/-- Where the unread bits begin with `bs`, they begin with its first part and, after it, with its second (R29). -/
theorem BR.begins_append {br : BR} {bs cs : List Bool} (hb : br.begins (bs ++ cs)) :
    br.begins bs ∧ ∀ h, (br.past bs.length h).begins cs := by
  obtain ⟨hlen, hbits⟩ := hb
  rw [List.length_append] at hlen hbits
  refine ⟨⟨by omega, fun i hi => ?_⟩, fun h => ⟨by rw [BR.avail_past]; omega, fun i hi => ?_⟩⟩
  · rw [hbits i (by omega), List.getElem?_append_left hi]
  · rw [BR.past, Nat.add_assoc, hbits _ (by omega), List.getElem?_append_right (Nat.le_add_right _ _),
      Nat.add_sub_cancel_left]

/-- A decoder operation reads these bits: where the unread bits begin with them and the output is `o`, it consumes exactly
them, answers `a` and leaves the output `o'`; the rest of the decoder, but for look-ahead, is as before. -/
def Reads {α : Type} (f : Inflater → Res Inflater α) (bits : List Bool) (a : α) (o o' : List Byte) : Prop :=
  ∀ d : Inflater, d.br.begins bits → d.out = o → ∃ h, f d = .ok a { d with br := d.br.past bits.length h, out := o' }

theorem Reads.bind {α β : Type} {f : Inflater → Res Inflater α} {g : α → Inflater → Res Inflater β}
    {bs cs : List Bool} {a : α} {b : β} {o o' o'' : List Byte} (hf : Reads f bs a o o') (hg : Reads (g a) cs b o' o'') :
    Reads (fun d => (f d).bind g) (bs ++ cs) b o o'' := by
  intro d hb ho
  obtain ⟨hbs, hcs⟩ := BR.begins_append hb
  obtain ⟨h, hr⟩ := hf d hbs ho
  obtain ⟨h', hr'⟩ := hg { d with br := d.br.past bs.length h, out := o' } (hcs h) rfl
  exact ⟨h', by simp only [hr, Res.bind_ok, hr', BR.past_past, List.length_append]⟩

/-- An operation that reads nothing and only moves the output. -/
theorem reads_nothing {α : Type} {f : Inflater → Res Inflater α} {a : α} {o o' : List Byte}
    (hf : ∀ d : Inflater, d.out = o → f d = .ok a { d with out := o' }) : Reads f [] a o o' :=
  fun d _ ho => ⟨d.br.held, hf d ho⟩

theorem reads_readBits {v n : Nat} (hv : v < 2 ^ n) (o : List Byte) :
    Reads (onReader (·.readBits n)) (lowBits v n) v o o := by
  rintro d hb rfl
  obtain ⟨ha, hp⟩ := (d.br.begins_lowBits_iff hv).mp hb
  rw [length_lowBits, ← hp]
  exact onReader_readBits_of_le_avail ha

@[simp] theorem length_codeBits (code len : Nat) : (codeBits code len).length = len := by
  rw [codeBits, List.length_reverse, length_lowBits]

theorem reads_hdLitlen {sym : Nat} (hs : sym < 288) (o : List Byte) :
    Reads (onReader hdLitlen) (codeBits (litlenCode sym).1 (litlenCode sym).2) sym o o := by
  rintro d hb rfl
  have ha := ((d.br.begins_codeBits_iff _ _).mp hb).1
  have hslot := litlenDec9_peek_of_begins hs hb
  rw [length_codeBits]
  rcases hdLitlen_cases d.br with ⟨-, hr⟩ | ⟨hlt, -⟩
  · rw [hslot, BR.fill_advance_eq_past] at hr
    exact ⟨_, onReader_eq_ok.mpr ⟨_, hr, rfl⟩⟩
  · rw [hslot] at hlt
    exact absurd ha (Nat.not_le.mpr hlt)

theorem reads_hdDist {j : Nat} (hj : j < 32) (o : List Byte) : Reads (onReader hdDist) (codeBits j 5) j o o := by
  rintro d hb rfl
  obtain ⟨ha, hp⟩ := (d.br.begins_codeBits_iff j 5).mp hb
  rw [length_codeBits]
  rcases hdDist_cases d.br with ⟨-, hr⟩ | ⟨hlt, -⟩
  · rw [hp, rev_rev j 5 hj, BR.fill_advance_eq_past] at hr
    exact ⟨_, onReader_eq_ok.mpr ⟨_, hr, rfl⟩⟩
  · exact absurd ha (Nat.not_le.mpr hlt)

/-! ### One item of a block (R239 to R245) -/

theorem reads_resolveMatch {len dist : Nat} {o : List Byte} (hle : dist ≤ o.length) :
    Reads (resolveMatch len dist) [] () o (copyMatch o dist len) :=
  reads_nothing fun d ho => by rw [resolveMatch, ho, if_neg (Nat.not_lt.mpr hle)]

/-- The bits of a match after its length code (R242). -/
def matchTail (len dist : Nat) : List Bool :=
  lowBits (len - lenBase (lenIndex len)) (lenExtra (lenIndex len)) ++
    (codeBits (distIndex dist) 5 ++ (lowBits (dist - distBase (distIndex dist)) (distExtra (distIndex dist)) ++ []))

theorem tokenStream_mtch (len dist : Nat) : tokenStream (.mtch len dist) =
    codeBits (litlenCode (257 + lenIndex len)).1 (litlenCode (257 + lenIndex len)).2 ++ matchTail len dist := by
  simp only [tokenStream, matchTail, List.append_assoc, List.append_nil]

theorem range_of_matchOk {len dist : Nat} (hm : matchOk len dist = true) :
    3 ≤ len ∧ len ≤ 258 ∧ 1 ≤ dist ∧ dist ≤ 32768 := by
  simpa [matchOk, and_assoc] using hm

/-- The symbols and extra bits of R212 are read back to the length and the distance they were chosen for. -/
theorem reads_readMatch {len dist : Nat} {o : List Byte} (hm : matchOk len dist = true) (hle : dist ≤ o.length) :
    Reads (readMatch (lenIndex len)) (matchTail len dist) () o (copyMatch o dist len) := by
  obtain ⟨llo, lhi, dlo, dhi⟩ := range_of_matchOk hm
  obtain ⟨-, hlbase, -, hlextra⟩ := symbolSelection.1 len llo lhi
  obtain ⟨hj, hdbase, -, hdextra⟩ := symbolSelection.2.1 dist dlo dhi
  have hres : Reads (resolveMatch (lengthOf (lenIndex len) (len - lenBase (lenIndex len)))
      (distanceOf (distIndex dist) (dist - distBase (distIndex dist)))) [] () o (copyMatch o dist len) := by
    rw [lengthOf, distanceOf, Nat.add_sub_of_le hlbase, Nat.add_sub_of_le hdbase]
    exact reads_resolveMatch hle
  refine (reads_readBits hlextra o).bind ((reads_hdDist (by omega) o).bind ?_)
  simp only [if_neg (Nat.not_le.mpr hj)]
  exact (reads_readBits hdextra o).bind hres

/-- An item that is a token appends what the token stands for. -/
theorem reads_readFixedItem_token {t : Token} {o o' : List Byte} (ht : t.ok = true) (he : expandFrom o [t] = some o') :
    Reads readFixedItem (tokenStream t) false o o' := by
  cases t with
  | lit b =>
    obtain rfl := Option.some.inj he
    have happ : Reads (fun d => .ok false (d.append (BitVec.ofNat 8 b.toNat))) [] false o (o ++ [b]) :=
      reads_nothing fun d ho => by rw [Inflater.append, ho, BitVec.ofNat_toNat, BitVec.setWidth_eq]
    rw [tokenStream, ← List.append_nil (codeBits _ _)]
    refine (reads_hdLitlen (by omega) o).bind ?_
    simp only [if_pos b.isLt]
    exact happ
  | mtch len dist =>
    obtain ⟨hle, he⟩ := Option.ite_none_right_eq_some.mp he
    obtain rfl := Option.some.inj he
    obtain ⟨llo, lhi, -, -⟩ := range_of_matchOk ht
    obtain ⟨hi, -, -, -⟩ := symbolSelection.1 len llo lhi
    rw [tokenStream_mtch, ← List.append_nil (matchTail len dist)]
    refine (reads_hdLitlen (by omega) o).bind ?_
    simp only [if_neg (show ¬257 + lenIndex len < 256 by omega), if_neg (show ¬257 + lenIndex len = 256 by omega),
      if_neg (show ¬286 ≤ 257 + lenIndex len by omega), Nat.add_sub_cancel_left]
    exact (reads_readMatch ht hle).bind (reads_nothing fun d ho => by rw [← ho])

theorem reads_readFixedItem_eob (o : List Byte) : Reads readFixedItem (List.replicate 7 false) true o o := by
  rw [← codeBits_eob, ← List.append_nil (codeBits _ _)]
  refine (reads_hdLitlen (by decide) o).bind (reads_nothing fun d ho => ?_)
  rw [if_neg (by decide), if_pos rfl, ← ho]

/-! ### The block's body (R239) -/

theorem expandFrom_cons {o o' : List Byte} {t : Token} {ts : List Token} (he : expandFrom o (t :: ts) = some o') :
    ∃ o1, expandFrom o [t] = some o1 ∧ expandFrom o1 ts = some o' :=
  Option.bind_eq_some_iff.mp ((expandFrom_append o [t] ts).symm.trans he)

theorem bodyStream_cons (t : Token) (ts : List Token) : bodyStream (t :: ts) = tokenStream t ++ bodyStream ts := by
  rw [bodyStream, List.flatMap_cons, List.append_assoc, bodyStream]

/-- The loop reads one token at a time, and the end of block. -/
theorem reads_readFixedLoop {ts : List Token} {o o' : List Byte} (hok : ts.all Token.ok = true)
    (he : expandFrom o ts = some o') {fuel : Nat} (hf : ts.length < fuel) :
    Reads (readFixedLoop · fuel) (bodyStream ts) () o o' := by
  induction ts generalizing o fuel with
  | nil =>
    obtain ⟨fuel, rfl⟩ := Nat.exists_eq_add_one_of_ne_zero (Nat.ne_zero_of_lt hf)
    obtain rfl := Option.some.inj he
    rw [bodyStream, List.flatMap_nil, List.nil_append, ← List.append_nil (List.replicate 7 false)]
    exact (reads_readFixedItem_eob o).bind (reads_nothing fun d ho => by rw [if_pos rfl, ← ho])
  | cons t ts ih =>
    obtain ⟨fuel, rfl⟩ := Nat.exists_eq_add_one_of_ne_zero (Nat.ne_zero_of_lt hf)
    obtain ⟨ht, hts⟩ := Bool.and_eq_true_iff.mp (List.all_cons ▸ hok)
    obtain ⟨o1, ho1, he1⟩ := expandFrom_cons he
    rw [bodyStream_cons]
    refine (reads_readFixedItem_token ht ho1).bind ?_
    exact ih hts he1 (Nat.lt_of_succ_lt_succ hf)

theorem litlenCode_length_pos (sym : Nat) : 1 ≤ (litlenCode sym).2 := by
  unfold litlenCode
  split_ifs <;> exact Nat.succ_pos _

theorem length_tokenStream_pos (t : Token) : 1 ≤ (tokenStream t).length := by
  cases t with
  | lit b =>
    rw [tokenStream, length_codeBits]
    exact litlenCode_length_pos b.toNat
  | mtch len dist =>
    rw [tokenStream_mtch, List.length_append, length_codeBits]
    exact Nat.le_add_right_of_le (litlenCode_length_pos (257 + lenIndex len))

theorem length_le_length_bodyStream (ts : List Token) : ts.length ≤ (bodyStream ts).length := by
  induction ts with
  | nil => exact Nat.zero_le _
  | cons t ts ih =>
    have ht := length_tokenStream_pos t
    rw [bodyStream_cons, List.length_append, List.length_cons]
    omega

/-- As many iterations as bits are left are enough: a token takes at least one (R361). -/
theorem reads_readFixed {ts : List Token} {o o' : List Byte} (hok : ts.all Token.ok = true)
    (he : expandFrom o ts = some o') : Reads readFixed (bodyStream ts) () o o' := fun d hb ho =>
  reads_readFixedLoop hok he (Nat.lt_succ_of_le ((length_le_length_bodyStream ts).trans hb.1)) d hb ho

/-! ### The block (R230, R231) -/

theorem readBlockHeader_of_begins {d : Inflater} (hb : d.br.begins [true, true, false]) :
    ∃ h, readBlockHeader d = .ok () { d with br := d.br.past 3 h, bfinal := 1, btype := 1 } := by
  obtain ⟨h, hr⟩ := readBlockHeader_of_le_avail hb.1
  obtain ⟨hfinal, htype⟩ := BR.begins_append (bs := lowBits 1 1) (cs := lowBits 1 2) hb
  have hf := ((BR.begins_lowBits_iff _ (by decide)).mp hfinal).2
  have ht : bitsAt d.br.src (d.br.bitpos + 1) 2 = 1 := ((BR.begins_lowBits_iff _ (by decide)).mp (htype 0)).2
  exact ⟨h, by rw [hr, hf, ht]; rfl⟩

/-- `DEC.INFLATE` on a final fixed-Huffman block of valid tokens reads exactly the block (R230, R247). -/
theorem inflate_of_begins {d : Inflater} {ts : List Token} {o : List Byte}
    (hb : d.br.begins ([true, true, false] ++ bodyStream ts)) (hok : ts.all Token.ok = true)
    (he : expandFrom d.out ts = some o) :
    ∃ h, inflate d = .ok () ⟨d.br.past (3 + (bodyStream ts).length) h, o, 1, 1⟩ := by
  obtain ⟨hheader, hbody⟩ := BR.begins_append hb
  obtain ⟨h, hr⟩ := readBlockHeader_of_begins hheader
  obtain ⟨h', hr'⟩ := reads_readFixed hok he ⟨d.br.past 3 h, d.out, 1, 1⟩ (hbody h) rfl
  refine ⟨h', ?_⟩
  rw [inflate, inflateLoop, hr, Res.bind_ok, readBlockBody, if_neg (show (1 : BitVec 2) ≠ 0 by decide), if_pos rfl, hr',
    Res.bind_ok, if_pos rfl, BR.past_past]

/-! ### The bytes that `ENC.BLOCK` writes (R210) -/

theorem getElem?_flatMap_byteBits {src : List Byte} {k : Nat} (hk : k < 8 * src.length) :
    (src.flatMap byteBits)[k]? = some (bitAt src k) := by
  induction src generalizing k with
  | nil => exact absurd hk (Nat.not_lt_zero k)
  | cons b src ih =>
    rw [List.flatMap_cons]
    rcases Nat.lt_or_ge k 8 with h8 | h8
    · rw [List.getElem?_append_left (by rwa [length_byteBits]), byteBits, List.getElem?_map, List.getElem?_range h8, bitAt,
        Nat.div_eq_of_lt h8, Nat.mod_eq_of_lt h8]
      rfl
    · obtain ⟨k, rfl⟩ := Nat.exists_eq_add_of_le h8
      rw [List.getElem?_append_right (by rwa [length_byteBits]), length_byteBits, Nat.add_sub_cancel_left,
        ih (by rw [List.length_cons] at hk; omega), bitAt, bitAt, Nat.add_div_left k (by decide), Nat.add_mod_left]
      rfl

/-- A fresh reader's unread bits are those of its source in order (R11, R145). -/
theorem BR.begins_init {src : List Byte} {bits : List Bool} (hp : bits <+: src.flatMap byteBits) :
    (BR.init src).begins bits := by
  have hall : (src.flatMap byteBits).length = 8 * src.length := by simp [List.length_flatMap, Nat.mul_comm]
  have hlen : bits.length ≤ 8 * src.length := hall ▸ hp.length_le
  refine ⟨hlen, fun i hi => ?_⟩
  obtain ⟨rest, hsrc⟩ := hp
  rw [BR.init, Nat.zero_add, ← getElem?_flatMap_byteBits (hi.trans_le hlen), ← hsrc, List.getElem?_append_left hi]

theorem flatMap_byteBits_blockBytes (ts : List Token) :
    (blockBytes ts).flatMap byteBits =
      [true, true, false] ++ bodyStream ts ++ padBits (3 + (bodyStream ts).length) := by
  have hbits := bits_encodeBlockBits BW.empty_ok rfl ts
  rwa [BW.bits, cnt_encodeBlockBits, List.range_zero, List.map_nil, List.append_nil, BW.bits_empty, List.nil_append] at hbits

/-- R247, R274: the encoder's block of valid tokens inflates to what they spell, whatever follows it. -/
theorem inflateBytes_blockBytes {x : List Byte} {ts : List Token} (h : ValidTokens x ts) (junk : List Byte) :
    inflateBytes (blockBytes ts ++ junk) = .ok x := by
  have hp : [true, true, false] ++ bodyStream ts <+: (blockBytes ts ++ junk).flatMap byteBits := by
    rw [List.flatMap_append, flatMap_byteBits_blockBytes, List.append_assoc]
    exact List.prefix_append _ _
  obtain ⟨hok, he⟩ := h
  obtain ⟨_, hr⟩ := inflate_of_begins (d := ⟨BR.init (blockBytes ts ++ junk), [], 0, 0⟩) (BR.begins_init hp) hok he
  rw [inflateBytes, hr]

end Sys2Proof.Machine
end

section
/-! The gzip member read back: header, payload and footer (spec/46_gzip_framer.md R261 to R275). -/

namespace Sys2Proof.Machine

/-- Reading a `u32` back from where it stands (R65). -/
theorem word32At_leBytes (before after : List Byte) (c : Word32) :
    word32At (before ++ (leBytes 4 c.toNat ++ after)) before.length = c := by
  rw [word32At, List.drop_left, List.take_left' (length_leBytes _ _), leNat_leBytes, Nat.mod_eq_of_lt c.isLt,
    BitVec.ofNat_toNat, BitVec.setWidth_eq]

theorem footerCrc_leBytes (before : List Byte) (c z : Word32) :
    footerCrc (before ++ (leBytes 4 c.toNat ++ leBytes 4 z.toNat)) = c := by
  have hat : (before ++ (leBytes 4 c.toNat ++ leBytes 4 z.toNat)).length - 8 = before.length := by
    simp only [List.length_append, length_leBytes, Nat.reduceAdd, Nat.add_sub_cancel]
  rw [footerCrc, hat, word32At_leBytes]

theorem footerSize_leBytes (before : List Byte) (c z : Word32) :
    footerSize (before ++ (leBytes 4 c.toNat ++ leBytes 4 z.toNat)) = z := by
  have hat : (before ++ (leBytes 4 c.toNat ++ leBytes 4 z.toNat)).length - 4 = (before ++ leBytes 4 c.toNat).length := by
    simp only [List.length_append, length_leBytes]
    omega
  rw [footerSize, hat, ← List.append_assoc, ← List.append_nil (leBytes 4 z.toNat), word32At_leBytes]

/-- Without optional fields the payload starts right after the fixed header (R270). -/
theorem skipFields_zero (d : List Byte) (endPos : Nat) : skipFields d 0 endPos = some 10 := rfl

/-- What stands between the header of R262 and the eight bytes of a footer is the payload (R268 to R271). -/
theorem parseHeader_gzHeader (body : List Byte) {footer : List Byte} (hf : footer.length = 8) :
    ∃ gz, parseHeader (gzHeader ++ body ++ footer) ⟨0, 0, 0, 0, 0, 0⟩ = .ok () gz ∧
      payload (gzHeader ++ body ++ footer) gz = body := by
  have hlen : (gzHeader ++ body ++ footer).length = (gzHeader ++ body).length + 8 := by rw [List.length_append, hf]
  have hhead : (gzHeader ++ body).length = 10 + body.length := List.length_append
  have hmagic : leNat ((gzHeader ++ body ++ footer).take 3) = gzMagic :=
    (leNat_take_three_eq_magic (by omega)).mpr rfl
  have hflg : (gzHeader ++ body ++ footer).getD 3 0 = 0 := rfl
  refine ⟨⟨0, 10, (gzHeader ++ body).length, 0, 0, 0⟩, ?_, ?_⟩
  · rw [parseHeader, parseLength, hlen, if_neg (by rw [Config.minContainer]; omega), Res.bind_ok, parseMagic, if_pos hmagic,
      Res.bind_ok, hflg, acceptHeader, skipFields_zero]
    rfl
  · rw [payload, List.take_left]
    exact List.drop_left' rfl

/-- A member whose payload inflates ends in the footer checks on the output (R267, R272). -/
theorem decompressBytes_of_inflateBytes {body out : List Byte} (hi : inflateBytes body = .ok out) (c z : Word32) :
    decompressBytes (gzHeader ++ body ++ (leBytes 4 c.toNat ++ leBytes 4 z.toNat)) =
      (checkFooter out c z).elim (.ok out) .error := by
  obtain ⟨gz, hparse, hpay⟩ := parseHeader_gzHeader body (footer := leBytes 4 c.toNat ++ leBytes 4 z.toNat) rfl
  simp only [decompressBytes, hparse, hpay, hi, footerCrc_leBytes, footerSize_leBytes]
  cases checkFooter out c z <;> rfl

/-- The footer that belongs to an output passes its checks (R264, R272). -/
theorem checkFooter_self (x : List Byte) : checkFooter x (crc32 x) (BitVec.ofNat 32 x.length) = none := by
  rw [checkFooter, bne_self_eq_false, bne_self_eq_false, footerError]

/-- R274: the member of valid tokens decompresses to the input, whatever follows the block. -/
theorem decompressBytes_member {x : List Byte} {ts : List Token} (h : ValidTokens x ts) (junk : List Byte) :
    decompressBytes (gzHeader ++ (blockBytes ts ++ junk) ++ gzFooter x) = .ok x := by
  have hfooter : gzFooter x = leBytes 4 (crc32 x).toNat ++ leBytes 4 (BitVec.ofNat 32 x.length).toNat := by
    rw [gzFooter, BitVec.toNat_ofNat]
  rw [hfooter, decompressBytes_of_inflateBytes (inflateBytes_blockBytes h junk), checkFooter_self, Option.elim_none]

/-- Settles O20: the tokens of the input are valid for it, and the member of valid tokens decompresses to the input. -/
theorem roundTrip : Obligations.RoundTrip := fun x => by
  have h := decompressBytes_member (validTokens_tokenize x) []
  rwa [List.append_nil] at h

end Sys2Proof.Machine
end

section
/-! Quiet cores wait, what the host observes of a result, and how a running command is followed to its end
(spec/70_reset_and_hazards.md R340, R362).

Two cores that start one command on one input differ in the rest of `IN` and in how many free values they have drawn, and in
nothing else. So a running command is followed from a state `c` with both left open, `c.onInput m f`: each step leads to the
same next state `c'` for every `m` and `f`, or ends the command with the same result (`Determined`). -/

namespace Sys2Proof.Machine

/-! ### Runs -/

theorem run_succ_of_next {s t : State} (h : step s = .next t) (k : Nat) :
    Host.Core.run Sys2Proof.core (k + 1) s = Host.Core.run Sys2Proof.core k t := by
  have hcore : Sys2Proof.core.step s = .next t := h
  simp only [Host.Core.run, hcore]

/-- A core with nothing from the host and nothing left to run waits (R266). -/
theorem step_of_quiet {s : State} (h : s.Quiet) : step s = .next s := by
  obtain ⟨hin, hu, hb⟩ := h
  simp only [step, hin, coreStep, fetch, hu, hb, runFetched, Bool.false_eq_true, if_false]

theorem run_of_quiet {s : State} (h : s.Quiet) (k : Nat) : Host.Core.run Sys2Proof.core k s = .next s := by
  induction k with
  | zero => rfl
  | succ k ih => rw [run_succ_of_next (step_of_quiet h), ih]

theorem reset_quiet : State.reset.Quiet := ⟨rfl, rfl, rfl⟩

/-- Settles O6: the values are `State.reset`'s own, and a reset core is quiet. -/
theorem resetLeavesTheCoreIdle : Obligations.ResetLeavesTheCoreIdle :=
  ⟨rfl, rfl, rfl, rfl, rfl, run_of_quiet reset_quiet⟩

/-! ### What the host observes of a result -/

/-- The state shows the result of a command: its output, or its error (R266, R320). -/
def State.Shows (t : State) (r : Except ErrKind (List Byte)) : Prop :=
  match r with
  | .ok out => t.Succeeded out
  | .error e => t.Failed e

theorem State.Shows.done {t : State} {r : Except ErrKind (List Byte)} (h : t.Shows r) : t.done = true := by
  cases r with
  | ok out =>
    obtain ⟨-, -, -, -, hirq⟩ := h
    exact hirq
  | error e =>
    obtain ⟨-, -, -, hirq⟩ := h
    exact hirq

/-- R362's triple is the same wherever the same result is shown. -/
theorem State.Shows.agree {t t' : State} {r : Except ErrKind (List Byte)} (h : t.Shows r) (h' : t'.Shows r) :
    t.err = t'.err ∧ t.errCode = t'.errCode ∧ t.outLen = t'.outLen ∧ ∀ a, t.hostOutByte a = t'.hostOutByte a := by
  cases r with
  | ok out =>
    obtain ⟨hs, -, ho, hl, -⟩ := h
    obtain ⟨hs', -, ho', hl', -⟩ := h'
    simp only [State.err, State.errCode, State.hostOutByte, hs, hs', ho, ho', hl, hl', implies_true, and_self]
  | error e =>
    obtain ⟨hs, -, hl, -⟩ := h
    obtain ⟨hs', -, hl', -⟩ := h'
    simp only [State.err, State.errCode, State.hostOutByte, hs, hs', hl, hl', Nat.not_lt_zero, if_false, implies_true,
      and_self]

/-! ### A command followed with the memory and the free values left open -/

/-- `c` with another memory and another count of free values drawn. -/
def State.onInput (c : State) (m : Memory) (f : Nat) : State := { c with inBuf := m, free := f }

@[simp] theorem State.onInput_inbox (c : State) (m : Memory) (f : Nat) : (c.onInput m f).inbox = c.inbox := rfl
@[simp] theorem State.onInput_uops (c : State) (m : Memory) (f : Nat) : (c.onInput m f).uops = c.uops := rfl
@[simp] theorem State.onInput_busy (c : State) (m : Memory) (f : Nat) : (c.onInput m f).busy = c.busy := rfl
@[simp] theorem State.onInput_expect (c : State) (m : Memory) (f : Nat) : (c.onInput m f).expect = c.expect := rfl
@[simp] theorem State.onInput_n (c : State) (m : Memory) (f : Nat) : (c.onInput m f).n = c.n := rfl
@[simp] theorem State.onInput_gz (c : State) (m : Memory) (f : Nat) : (c.onInput m f).gz = c.gz := rfl
@[simp] theorem State.onInput_dec (c : State) (m : Memory) (f : Nat) : (c.onInput m f).dec = c.dec := rfl
@[simp] theorem State.onInput_out (c : State) (m : Memory) (f : Nat) : (c.onInput m f).out = c.out := rfl

/-- From `c`, a core whose `IN` begins with `d` ends its command in one number of steps and with one result. -/
def Determined (d : List Byte) (c : State) : Prop :=
  ∃ k r, ∀ (m : Memory) (f : Nat), m.readBytes 0 d.length = some d →
    ∃ t, Host.Core.run Sys2Proof.core k (c.onInput m f) = .next t ∧ t.Shows r

variable {d : List Byte} {c : State}

/-- A step that leads to one next state, whatever is left open. -/
theorem Determined.of_next (c' : State)
    (hstep : ∀ (m : Memory) (f : Nat), m.readBytes 0 d.length = some d → step (c.onInput m f) = .next (c'.onInput m f))
    (h : Determined d c') : Determined d c := by
  obtain ⟨k, r, hrun⟩ := h
  refine ⟨k + 1, r, fun m f hm => ?_⟩
  rw [run_succ_of_next (hstep m f hm)]
  exact hrun m f hm

/-- A step that ends the command with one result. -/
theorem Determined.of_shows (r : Except ErrKind (List Byte))
    (hstep : ∀ (m : Memory) (f : Nat), m.readBytes 0 d.length = some d →
      ∃ t, step (c.onInput m f) = .next t ∧ t.Shows r) : Determined d c := by
  refine ⟨1, r, fun m f hm => ?_⟩
  obtain ⟨t, ht, hr⟩ := hstep m f hm
  exact ⟨t, run_succ_of_next ht 0, hr⟩

theorem Determined.of_raise (e : ErrKind)
    (hstep : ∀ (m : Memory) (f : Nat), m.readBytes 0 d.length = some d →
      ∃ t, step (c.onInput m f) = .next (raiseError e t)) : Determined d c := by
  refine .of_shows (.error e) fun m f hm => ?_
  obtain ⟨t, ht⟩ := hstep m f hm
  exact ⟨_, ht, raiseError_failed e t⟩

/-! ### Completion (R266) -/

theorem statusBusy_busy : statusBusy.getLsbD 0 = true := by decide

theorem statusSuccess_eq : statusSuccess = 0x02#8 := by decide

theorem statusSuccess_done : statusSuccess.getLsbD 1 = true := by decide

theorem finishCommand_succeeded (s : State) : (finishCommand s).Succeeded s.outBytes :=
  ⟨statusSuccess_eq, rfl, rfl, rfl, statusSuccess_done⟩

theorem step_finish {s : State} (hin : s.inbox = []) (hu : s.uops = []) (hb : s.busy = true) (he : s.expect = .nothing) :
    step s = .next (finishCommand s) := by
  simp only [step, hin, coreStep, fetch, hu, hb, if_true, fetchElement, he, runFetched]

end Sys2Proof.Machine
end

section
/-! `COMPRESS` on a given input ends in one way: its four unit operations in turn (spec/46_gzip_framer.md R261). -/

namespace Sys2Proof.Machine

variable {d : List Byte}

/-- The sequencer's next unit operation (log entry 2). -/
theorem step_uop {s : State} {w : Nat} {rest : List Nat} {i : Instr} (hin : s.inbox = []) (hu : s.uops = w :: rest)
    (hd : decode .uop w = .ok i) : step s = exec i (startUop w rest s) := by
  simp only [step, hin, coreStep, fetch, hu, fetchWord, hd, runFetched]

theorem exec_gzWritehdr {s : State} (hc : s.bw.cnt = 0) :
    exec .gzWritehdr s = .next { s with bw := s.bw.appendBytes gzHeader } := if_pos hc

theorem exec_tkTokenize {s : State} (hd : s.input = some d) :
    exec .tkTokenize s = .next { s with tk := s.tk.tokenize d } := withInput_eq hd _

theorem exec_gzWriteftr {s : State} (hc : s.bw.cnt = 0) (hd : s.input = some d) :
    exec .gzWriteftr s = .next { s with bw := s.bw.appendBytes (gzFooter d), crc := crcRun d } :=
  (if_pos hc).trans (withInput_eq hd _)

/-- `COMPRESS` of `d` under way: the unit operations still to run, the phase, the writer, the tokenizer and the CRC register. -/
def compressing (d : List Byte) (uops : List Nat) (phase : Phase) (bw : BW) (tk : TK) (crc : Word32) : State :=
  { startCommand { State.reset with cmd := 1, inLen := d.length } with
    uops := uops
    phase := phase
    bw := bw
    tk := tk
    crc := crc }

variable {phase : Phase} {bw : BW} {tk : TK} {crc : Word32}

theorem step_compressing {w : Nat} {rest : List Nat} {i : Instr} (hd : decode .uop w = .ok i) (m : Memory) (f : Nat) :
    step ((compressing d (w :: rest) phase bw tk crc).onInput m f) =
      exec i ((compressing d rest (sequencePhase w phase) bw tk crc).onInput m f) := by
  have hb : ((compressing d (w :: rest) phase bw tk crc).onInput m f).busy = true := statusBusy_busy
  rw [step_uop rfl rfl hd, startUop, if_pos hb]
  rfl

theorem determined_compressing_nil : Determined d (compressing d [] phase bw tk crc) :=
  .of_shows (.ok (compressing d [] phase bw tk crc).outBytes) fun _ _ _ =>
    ⟨_, step_finish rfl rfl statusBusy_busy rfl, finishCommand_succeeded _⟩

theorem determined_compressing_writeftr (hc : bw.cnt = 0) : Determined d (compressing d [0x91] phase bw tk crc) :=
  .of_next (compressing d [] .cFrame (bw.appendBytes (gzFooter d)) tk (crcRun d))
    (fun m f hm => (step_compressing rfl m f).trans (exec_gzWriteftr hc hm)) determined_compressing_nil

theorem determined_compressing_encBlock (hc : bw.cnt = 0) (hq : tk.queue.all Token.ok = true) :
    Determined d (compressing d [0x70, 0x91] phase bw tk crc) := by
  refine .of_next (compressing d [0x91] .cEncode (encodeBlockBits tk.queue bw) { tk with queue := [] } crc)
    (fun m f _ => ?_) (determined_compressing_writeftr (cnt_encodeBlockBits tk.queue bw))
  rw [step_compressing (i := .encBlock) rfl, exec_encBlock]
  · simp only [State.onInput, compressing]
    rfl
  · exact hc
  · exact hq

/-- The tokens that `TK.TOKENIZE` queues are in range (R199), so `ENC.BLOCK` takes them. -/
theorem determined_compressing_tokenize (hc : bw.cnt = 0) :
    Determined d (compressing d [0x62, 0x70, 0x91] phase bw (TK.start []) crc) :=
  .of_next (compressing d [0x70, 0x91] .cTokenize bw ((TK.start []).tokenize d) crc)
    (fun m f hm => (step_compressing rfl m f).trans (exec_tkTokenize hm))
    (determined_compressing_encBlock hc (validTokens_tokenize d).1)

theorem determined_compressing (d : List Byte) :
    Determined d (compressing d compressUops .cTokenize BW.empty (TK.start []) Config.crcInit) :=
  .of_next (compressing d [0x62, 0x70, 0x91] .cTokenize (BW.empty.appendBytes gzHeader) (TK.start []) Config.crcInit)
    (fun m f _ => (step_compressing rfl m f).trans (exec_gzWritehdr rfl)) (determined_compressing_tokenize rfl)

end Sys2Proof.Machine
end

section
/-! `DECOMPRESS` on a given input ends in one way: the sequencer meets the same elements whatever is beyond the input, an optional
field leaves fewer `FLG` bits, and an element of a block fewer bits of the payload (spec/46_gzip_framer.md R267, R361). -/

namespace Sys2Proof.Machine

variable {d : List Byte} {c : State}

/-! ### The meanings of the elements of a block body (R100, R112, R114) -/

/-- The meanings of the 256 literals, by rows of sixteen. -/
theorem map_exec_litRows : litRows.map exec = (List.range 256).map fun k => literalItem (BitVec.ofNat 8 k) := by
  have hrange : List.range 256 = ((List.range 16).map fun r => (List.range 16).map (16 * r + ·)).flatten := by
    decide +kernel
  have hrows : litRows = [litRows0, litRows1, litRows2, litRows3, litRows4, litRows5, litRows6, litRows7, litRows8,
      litRows9, litRowsA, litRowsB, litRowsC, litRowsD, litRowsE, litRowsF].flatten := by
    simp only [litRows, List.flatten_cons, List.flatten_nil, List.append_assoc, List.append_nil]
  rw [hrange, hrows, List.map_flatten, List.map_flatten]
  rfl

theorem exec_litInstr (b : Byte) : exec (litInstr b) = literalItem b := by
  have h := congrArg (·.getD b.toNat (exec .eob)) map_exec_litRows
  simpa [List.getD_eq_getElem?_getD, b.isLt, litInstr] using h

theorem exec_lenInstr {i : Nat} (hi : i < 29) (e : Nat) : ∃ x, exec (lenInstr i e) = lengthItem i x := by
  interval_cases i <;> exact ⟨_, rfl⟩

theorem exec_distInstr {j : Nat} (hj : j < 30) (x : Nat) : ∃ x', exec (distInstr j x) = distanceItem j x' := by
  interval_cases j <;> exact ⟨_, rfl⟩

theorem exec_distInstr_reserved {j : Nat} (hj : 30 ≤ j) (x : Nat) : exec (distInstr j x) = reservedDistItem := by
  obtain ⟨k, rfl⟩ := Nat.exists_eq_add_of_le' hj
  cases k <;> rfl

/-! ### What a decoder operation consumes (R361) -/

/-- If `r` answers, fewer than `n` bits are left to read. -/
def Res.LeavesBelow {α : Type} (r : Res Inflater α) (n : Nat) : Prop := ∀ a x, r = .ok a x → x.br.avail < n

theorem leavesBelow_ok {α : Type} {a : α} {x : Inflater} {n : Nat} (h : x.br.avail < n) :
    (Res.ok a x).LeavesBelow n := by
  rintro _ _ ⟨⟩
  exact h

theorem leavesBelow_raise {α : Type} (e : ErrKind) (x : Inflater) (n : Nat) :
    (Res.raise e x : Res Inflater α).LeavesBelow n := nofun

theorem Res.LeavesBelow.bind {α β : Type} {r : Res Inflater α} {f : α → Inflater → Res Inflater β} {n : Nat}
    (h : r.LeavesBelow n) (hf : ∀ a x, x.br.avail < n → (f a x).LeavesBelow n) : (r.bind f).LeavesBelow n := by
  intro b y hy
  obtain ⟨a, x, hr, hfx⟩ := Res.bind_eq_ok.mp hy
  exact hf a x (h a x hr) b y hfx

theorem BR.avail_fill_advance (br : BR) (m n : Nat) : ((br.fill m).advance n).avail = br.avail - n :=
  Nat.sub_add_eq _ _ _

/-- A reader operation that consumes `k` bits or raises, inside the decoder. -/
theorem onReader_leavesBelow {α : Type} {g : BR → Res BR α} {x : Inflater} {k m n : Nat} {a : α} {e : ErrKind} {br : BR}
    (h : x.br.avail < n + k) (hg : (k ≤ x.br.avail ∧ g x.br = .ok a ((x.br.fill m).advance k)) ∨
      (x.br.avail < k ∧ g x.br = .raise e br)) : (onReader g x).LeavesBelow n := by
  unfold onReader
  rcases hg with ⟨ha, he⟩ | ⟨-, he⟩ <;> rw [he]
  · exact leavesBelow_ok (by rw [BR.avail_fill_advance]; omega)
  · exact leavesBelow_raise _ _ _

theorem readBits_leavesBelow {x : Inflater} {k n : Nat} (h : x.br.avail < n + k) :
    (onReader (·.readBits k) x).LeavesBelow n := onReader_leavesBelow h (x.br.readBits_cases k)

theorem takeBits_leavesBelow {x : Inflater} {k n : Nat} (h : x.br.avail < n + k) : (takeBits k x).LeavesBelow n :=
  onReader_leavesBelow h (x.br.skipBits_cases k)

/-- Every code has at least one bit (R33). -/
theorem takeSymbol_leavesBelow (sym : Nat) (x : Inflater) : (takeSymbol sym x).LeavesBelow x.br.avail :=
  onReader_leavesBelow (Nat.lt_add_of_pos_right (litlenCode_length_pos sym)) (takeCode_cases (litlenCode sym).2 x.br)

theorem resolveMatch_leavesBelow {x : Inflater} {n : Nat} (h : x.br.avail < n) (len dist : Nat) :
    (resolveMatch len dist x).LeavesBelow n := by
  unfold resolveMatch
  split
  · exact leavesBelow_raise _ _ _
  · exact leavesBelow_ok h

theorem storedCopy_leavesBelow {x : Inflater} {n : Nat} (h : x.br.avail < n) (k : Nat) :
    (storedCopy x k).LeavesBelow n := by
  induction k generalizing x with
  | zero => exact leavesBelow_ok h
  | succ k ih =>
    rw [storedCopy]
    exact (readBits_leavesBelow (Nat.lt_add_right 8 h)).bind fun _ _ hy => ih hy

theorem takeHeader_leavesBelow (btype : BitVec 2) (b : BitVec 1) (x : Inflater) :
    (takeHeader btype b x).LeavesBelow x.br.avail :=
  (takeBits_leavesBelow (by omega)).bind fun _ _ hy =>
    (takeBits_leavesBelow (by exact Nat.lt_add_right 2 hy)).bind fun _ _ hz => leavesBelow_ok (by exact hz)

theorem BR.avail_align_le (br : BR) : br.align.avail ≤ br.avail := by
  simp only [BR.avail, BR.align]
  omega

/-! ### `DECOMPRESS` under way (R267) -/

/-- A command runs on the input `d`, with no unit operation of the sequencer's list left. -/
structure State.Running (c : State) (d : List Byte) : Prop where
  inbox : c.inbox = []
  uops : c.uops = []
  busy : c.busy = true
  n : c.n = d.length

/-- The elements that may come next once the header of a member is read (R230, R239, R267). -/
def elementsAfterHeader : List Expect := [.blkhdr, .stored, .litlen, .dist, .gzftr]

/-- `DECOMPRESS` has left the header of the member `d` behind. -/
structure State.Decoding (c : State) (d : List Byte) : Prop extends c.Running d where
  footer : 8 ≤ d.length
  expect : c.expect ∈ elementsAfterHeader

theorem State.Running.step (hc : c.Running d) (m : Memory) (f : Nat) :
    step (c.onInput m f) = runFetched (c.onInput m f) (fetchElement (c.onInput m f)) := by
  simp only [Machine.step, coreStep, fetch, State.onInput_inbox, State.onInput_uops, State.onInput_busy, hc.inbox, hc.uops,
    hc.busy, if_true]

theorem State.Running.step_of_instr (hc : c.Running d) {i : Instr} {m : Memory} {f : Nat}
    (hi : fetchElement (c.onInput m f) = .instr i (c.onInput m f)) :
    Machine.step (c.onInput m f) = exec i (c.onInput m f) := by
  rw [hc.step, hi, runFetched]

theorem State.Running.input (hc : c.Running d) {m : Memory} (hm : m.readBytes 0 d.length = some d) (f : Nat) :
    (c.onInput m f).input = some d := by
  rw [← hm, ← hc.n]
  rfl

/-- What an element of a block does to the sequencer, after its bits are consumed: nothing that depends on the memory or
on the free values, and the payload goes on to be read where the element ends. -/
structure Continues (d : List Byte) (next : State → State) : Prop where
  onInput : ∀ t m f, next (t.onInput m f) = (next t).onInput m f
  br : ∀ t, (next t).br = t.br
  decoding : ∀ t, t.Decoding d → (next t).Decoding d

theorem continues_id : Continues d id := ⟨fun _ _ _ => rfl, fun _ => rfl, fun _ ht => ht⟩

theorem continues_expect (e : Expect) (he : e ∈ elementsAfterHeader) :
    Continues d fun t => { t with expect := e } :=
  ⟨fun _ _ _ => rfl, fun _ => rfl, fun _ ht => { ht with expect := he }⟩

theorem continues_length (len : Nat) :
    Continues d fun t => { t with dec := { t.dec with len := len }, expect := .dist } :=
  ⟨fun _ _ _ => rfl, fun _ => rfl, fun _ ht => { ht with expect := (by decide : Expect.dist ∈ elementsAfterHeader) }⟩

theorem continues_endBlock : Continues d endBlock where
  onInput t m f := by
    unfold endBlock
    rw [State.onInput_dec]
    split <;> rfl
  br := endBlock_br
  decoding t ht := by
    unfold endBlock
    split
    · exact { ht with expect := (by decide : Expect.gzftr ∈ elementsAfterHeader) }
    · exact { ht with expect := (by decide : Expect.blkhdr ∈ elementsAfterHeader) }

/-- From `c`, an element of a block ends the command with an error, or consumes at least one bit and goes on. -/
def Consumes (d : List Byte) (c : State) (act : State → StepResult) : Prop :=
  ∃ (r : Res Inflater Unit) (next : State → State), Continues d next ∧ r.LeavesBelow c.br.avail ∧
    ∀ m f, act (c.onInput m f) = runInflater r (c.onInput m f) fun _ t => .next (next t)

theorem literalItem_consumes (b : Byte) : Consumes d c (literalItem b) :=
  ⟨(takeSymbol b.toNat c.inflater).bind fun _ x => .ok () (x.append b), id, continues_id,
    (takeSymbol_leavesBelow _ c.inflater).bind fun _ _ hx => leavesBelow_ok hx, fun _ _ => rfl⟩

theorem eobItem_consumes : Consumes d c eobItem :=
  ⟨takeSymbol 256 c.inflater, endBlock, continues_endBlock, takeSymbol_leavesBelow _ c.inflater, fun _ _ => rfl⟩

theorem lengthItem_consumes (i e : Nat) : Consumes d c (lengthItem i e) :=
  ⟨(takeSymbol (257 + i) c.inflater).bind fun _ x => takeBits (lenExtra i) x, _, continues_length (lengthOf i e),
    (takeSymbol_leavesBelow _ c.inflater).bind fun _ _ hx => takeBits_leavesBelow (Nat.lt_add_right _ hx), fun _ _ => rfl⟩

theorem reservedLitlenItem_consumes (sym : Nat) : Consumes d c (reservedLitlenItem sym) :=
  ⟨(takeSymbol sym c.inflater).bind fun _ x => .raise .badSymbol x, id, continues_id,
    (takeSymbol_leavesBelow _ c.inflater).bind fun _ _ _ => leavesBelow_raise _ _ _, fun _ _ => rfl⟩

theorem distanceItem_consumes (j x : Nat) : Consumes d c (distanceItem j x) :=
  ⟨(takeBits 5 c.inflater).bind fun _ y => (takeBits (distExtra j) y).bind fun _ y =>
      resolveMatch c.dec.len (distanceOf j x) y,
    _, continues_expect .litlen (by decide),
    (takeBits_leavesBelow (by exact Nat.lt_add_of_pos_right (by decide))).bind fun _ _ hy =>
      (takeBits_leavesBelow (Nat.lt_add_right _ hy)).bind fun _ _ hz => resolveMatch_leavesBelow hz _ _,
    fun _ _ => rfl⟩

theorem reservedDistItem_consumes : Consumes d c reservedDistItem :=
  ⟨(takeBits 5 c.inflater).bind fun _ x => .raise .badSymbol x, id, continues_id,
    (takeBits_leavesBelow (by exact Nat.lt_add_of_pos_right (by decide))).bind fun _ _ _ => leavesBelow_raise _ _ _,
    fun _ _ => rfl⟩

theorem blockItem_consumes (btype : BitVec 2) (b : BitVec 1) {body : Expect}
    (he : body ∈ elementsAfterHeader) : Consumes d c (blockItem btype b body) :=
  ⟨takeHeader btype b c.inflater, _, continues_expect body he, takeHeader_leavesBelow _ _ c.inflater, fun _ _ => rfl⟩

theorem badBlockItem_consumes (btype : BitVec 2) (b : BitVec 1) : Consumes d c (badBlockItem btype b) :=
  ⟨(takeHeader btype b c.inflater).bind fun _ x => .raise .badBlockType x, id, continues_id,
    (takeHeader_leavesBelow _ _ c.inflater).bind fun _ _ _ => leavesBelow_raise _ _ _, fun _ _ => rfl⟩

theorem storedItem_consumes (len nlen : BitVec 16) : Consumes d c (storedItem len nlen) := by
  refine ⟨(takeBits 16 { c.inflater with br := c.br.align }).bind fun _ x => (takeBits 16 x).bind fun _ x =>
      if lenNlenOk len nlen then storedCopy x len.toNat else .raise .lenNlen x,
    endBlock, continues_endBlock, ?_, fun _ _ => rfl⟩
  have halign := c.br.avail_align_le
  refine (takeBits_leavesBelow (Nat.lt_succ_of_le (Nat.le_add_right_of_le halign))).bind fun _ x hx => ?_
  refine (takeBits_leavesBelow (Nat.lt_add_right _ hx)).bind fun _ y hy => ?_
  split
  · exact storedCopy_leavesBelow hy _
  · exact leavesBelow_raise _ _ _

theorem symbolInstr_consumes {sym : Nat} (hs : sym < 288) (e : Nat) : Consumes d c (exec (symbolInstr sym e)) := by
  unfold symbolInstr
  split_ifs with hlit heob hlen h286
  · rw [exec_litInstr]
    exact literalItem_consumes _
  · exact eobItem_consumes
  · obtain ⟨x, hx⟩ := exec_lenInstr (i := sym - 257) (by omega) e
    rw [hx]
    exact lengthItem_consumes _ x
  · exact reservedLitlenItem_consumes 286
  · exact reservedLitlenItem_consumes 287

theorem distInstr_consumes (j x : Nat) : Consumes d c (exec (distInstr j x)) := by
  rcases Nat.lt_or_ge j 30 with hj | hj
  · obtain ⟨x', hx⟩ := exec_distInstr hj x
    rw [hx]
    exact distanceItem_consumes j x'
  · rw [exec_distInstr_reserved hj]
    exact reservedDistItem_consumes

theorem blockInstr_consumes (btype : Nat) (b : BitVec 1) : Consumes d c (exec (blockInstr btype b)) := by
  unfold blockInstr
  split
  · exact blockItem_consumes 0 b (by decide)
  · exact blockItem_consumes 1 b (by decide)
  · exact badBlockItem_consumes 2 b
  · exact badBlockItem_consumes 3 b

/-! ### `DECOMPRESS` comes to an end (R267, R361) -/

/-- Once the last element is read the command completes with what `OUT` holds (R266). -/
theorem State.Running.determined_of_nothing (hc : c.Running d) (he : c.expect = .nothing) : Determined d c :=
  .of_shows (.ok c.outBytes) fun _ _ _ => ⟨_, step_finish hc.inbox hc.uops hc.busy he, finishCommand_succeeded _⟩

/-- The footer's fields lie in the input, and the checks are against `OUT` (R272). -/
theorem State.Decoding.determined_of_gzftr (hc : c.Decoding d) (he : c.expect = .gzftr) : Determined d c := by
  have h8 : ¬ c.n < 8 := Nat.not_lt.mpr (hc.n ▸ hc.footer)
  obtain ⟨w, hw⟩ : ∃ w, ∀ m f, m.readBytes 0 d.length = some d →
      fetchElement (c.onInput m f) = fetchWord .gzftr w (c.onInput m f) := by
    refine ⟨leNat ((d.drop (c.n - 8)).take 8), fun m f hm => ?_⟩
    simp only [fetchElement, State.onInput_expect, he, State.onInput_n, h8, if_false, fetchInput, hc.input hm]
  have hstep : ∀ m f, m.readBytes 0 d.length = some d → Machine.step (c.onInput m f) =
      footerItem (BitVec.ofNat 32 w) (BitVec.ofNat 32 (w / 2 ^ 32)) .nothing (c.onInput m f) := fun m f hm =>
    hc.step_of_instr (hw m f hm)
  cases hk : checkFooter c.out (BitVec.ofNat 32 w) (BitVec.ofNat 32 (w / 2 ^ 32)) with
  | some e =>
    exact .of_raise e fun m f hm => ⟨_, by simp only [hstep m f hm, footerItem, State.onInput_out, hk]; rfl⟩
  | none =>
    refine .of_next { c with
        crc := crcRun c.out
        gz := { c.gz with crcExpect := BitVec.ofNat 32 w, sizeExpect := BitVec.ofNat 32 (w / 2 ^ 32) }
        expect := .nothing } (fun m f hm => ?_) (State.Running.determined_of_nothing { hc.toRunning with } rfl)
    simp only [hstep m f hm, footerItem, State.onInput_out, hk]
    rfl

/-- What stands at the reader is an element of the block, and each consumes at least one bit (R361). -/
theorem State.Decoding.step_consumes (hc : c.Decoding d) (hf : c.expect ≠ .gzftr) :
    ∃ act, Consumes d c act ∧ ∀ m f, Machine.step (c.onInput m f) = act (c.onInput m f) := by
  have hmem := hc.expect
  simp only [elementsAfterHeader, List.mem_cons, List.not_mem_nil, or_false] at hmem
  rcases hmem with he | he | he | he | he
  · refine ⟨_, blockInstr_consumes (bitsAt c.br.src c.br.bitpos 3 / 2 % 4) (BitVec.ofNat 1 (bitsAt c.br.src c.br.bitpos 3)),
      fun m f => hc.step_of_instr ?_⟩
    rw [fetchElement, State.onInput_expect, he]
    rfl
  · refine ⟨_, storedItem_consumes (BitVec.ofNat 16 (bitsAt c.br.src c.br.align.bitpos 32))
        (BitVec.ofNat 16 (bitsAt c.br.src c.br.align.bitpos 32 / 2 ^ 16)),
      fun m f => hc.step_of_instr (i := .storedBody _ _) ?_⟩
    rw [fetchElement, State.onInput_expect, he]
    rfl
  · refine ⟨_, symbolInstr_consumes (litlenDec9_slot (bitsAt c.br.src c.br.bitpos 14 % 512) (Nat.mod_lt _ (by decide))).1
        (bitsAt c.br.src c.br.bitpos 14 / 2 ^ (litlenDec9 (bitsAt c.br.src c.br.bitpos 14 % 512)).2),
      fun m f => hc.step_of_instr ?_⟩
    rw [fetchElement, State.onInput_expect, he]
    rfl
  · refine ⟨_, distInstr_consumes (rev (bitsAt c.br.src c.br.bitpos 18 % 32) 5) (bitsAt c.br.src c.br.bitpos 18 / 32),
      fun m f => hc.step_of_instr ?_⟩
    rw [fetchElement, State.onInput_expect, he]
    rfl
  · exact absurd he hf

/-- It is enough to follow the states that have fewer bits of the payload left. -/
theorem Consumes.determined {act : State → StepResult} (hc : c.Decoding d) (h : Consumes d c act)
    (hstep : ∀ m f, step (c.onInput m f) = act (c.onInput m f))
    (ih : ∀ c' : State, c'.Decoding d → c'.br.avail < c.br.avail → Determined d c') : Determined d c := by
  obtain ⟨r, next, hnext, hbelow, hact⟩ := h
  cases hr : r with
  | ok a x =>
    refine .of_next (next (c.withInflater x)) (fun m f _ => ?_) (ih _ (hnext.decoding _ { hc with }) ?_)
    · rw [hstep, hact, hr, runInflater_ok, ← hnext.onInput]
      rfl
    · rw [hnext.br]
      exact hbelow a x hr
  | raise e x =>
    exact .of_raise e fun m f _ => ⟨_, by rw [hstep, hact, hr, runInflater_raise]⟩

/-- By induction on the bits left (R361). -/
theorem State.Decoding.determined (hc : c.Decoding d) : Determined d c := by
  induction h : c.br.avail using Nat.strong_induction_on generalizing c with
  | _ k ih =>
    by_cases hf : c.expect = .gzftr
    · exact hc.determined_of_gzftr hf
    · obtain ⟨act, hact, hstep⟩ := hc.step_consumes hf
      exact hact.determined hc hstep fun c' hc' hlt => ih _ (h ▸ hlt) hc' rfl

/-! ### The header (R268 to R271) -/

/-- Clearing a set bit of `FLG` leaves less to skip. -/
theorem clear_bit_lt : ∀ (i : Fin 8) (opt : Byte), opt.toNat.testBit i = true →
    (opt &&& ~~~(1#8 <<< i.val)).toNat < opt.toNat := by decide +kernel

/-- An optional field is skipped by its own rule, a function of the input and of the framer, and its `FLG` bit is cleared; with
none left the payload is handed to the reader (R270, R271). -/
theorem decodeGzopt_cases (opt : Byte) :
    (∃ i mask, ∃ past : List Byte → GZ → Option Nat, decode .gzopt opt.toNat = .ok i ∧
        (opt &&& ~~~mask).toNat < opt.toNat ∧
        ∀ s d, s.input = some d → exec i s = fieldItem mask (past d s.gz) s) ∨
      decode .gzopt opt.toNat = .error .noOptionalField := by
  simp only [decode, decodeGzopt]
  split_ifs with h2 h3 h4 h1
  · exact .inl ⟨_, 0x04, fun d gz => skipFextra d gz.pos gz.endPos, rfl, clear_bit_lt 2 opt h2,
      fun _ _ hd => withInput_eq hd _⟩
  · exact .inl ⟨_, 0x08, fun d gz => skipText d gz.pos gz.endPos, rfl, clear_bit_lt 3 opt h3,
      fun _ _ hd => withInput_eq hd _⟩
  · exact .inl ⟨_, 0x10, fun d gz => skipText d gz.pos gz.endPos, rfl, clear_bit_lt 4 opt h4,
      fun _ _ hd => withInput_eq hd _⟩
  · exact .inl ⟨_, 0x02, fun _ gz => skipFhcrc gz.pos gz.endPos, rfl, clear_bit_lt 1 opt h1, fun _ _ _ => rfl⟩
  · exact .inr rfl

/-- By induction on the `FLG` bits of the fields still to skip. -/
theorem State.Running.determined_of_gzopt (hc : c.Running d) (he : c.expect = .gzopt) (h8 : 8 ≤ d.length) :
    Determined d c := by
  induction h : c.gz.opt.toNat using Nat.strong_induction_on generalizing c with
  | _ k ih =>
    rcases decodeGzopt_cases c.gz.opt with ⟨i, mask, past, hd, hlt, hi⟩ | hd
    · have hstep : ∀ m f, m.readBytes 0 d.length = some d →
          Machine.step (c.onInput m f) = fieldItem mask (past d c.gz) (c.onInput m f) := fun m f hm => by
        simp only [hc.step, fetchElement, State.onInput_expect, he, State.onInput_gz, hd, runFetched]
        exact hi _ d (hc.input hm f)
      cases hp : past d c.gz with
      | some pos =>
        refine .of_next { c with gz := { c.gz with pos := pos, opt := c.gz.opt &&& ~~~mask } } (fun m f hm => ?_)
          (ih _ (h ▸ hlt) { hc with } he rfl)
        rw [hstep m f hm, hp]
        rfl
      | none =>
        exact .of_raise .badFieldLen fun m f hm => ⟨_, by rw [hstep m f hm, hp]; rfl⟩
    · refine .of_next { enterInflate c with br := BR.init (payload d c.gz) } (fun m f hm => ?_)
        (State.Decoding.determined { hc with footer := h8, expect := (by decide : Expect.blkhdr ∈ elementsAfterHeader) })
      simp only [hc.step, fetchElement, State.onInput_expect, he, State.onInput_gz, hd, fetchInput, hc.input hm, runFetched]
      rfl

theorem exec_gzhdr {s : State} (hn : 18 ≤ s.n) (flg : Byte) (mtime : BitVec 32) (xfl os : Byte) :
    exec (.gzhdr flg mtime xfl os) s =
      .next { s with gz := acceptHeader flg { s.gz with endPos := s.n - 8 }, expect := .gzopt } := by
  have hlen : parseLength s.n s.gz = .ok () { s.gz with endPos := s.n - 8 } := if_neg (Nat.not_lt.mpr hn)
  show execGzhdr flg mtime xfl os s = _
  rw [execGzhdr, hlen]
  rfl

/-- The length check comes first, then the magic (R268, R269). -/
theorem State.Running.determined_of_gzhdr (hc : c.Running d) (he : c.expect = .gzhdr) : Determined d c := by
  rcases Nat.lt_or_ge c.n 18 with hs | hl
  · refine .of_raise .tooShort fun m f _ => ⟨c.onInput m f, ?_⟩
    simp only [hc.step, fetchElement, State.onInput_expect, he, State.onInput_n, Config.minContainer, hs, if_true, runFetched]
  · have hfetch : ∀ m f, m.readBytes 0 d.length = some d →
        fetchElement (c.onInput m f) = fetchWord .gzhdr (leNat (d.take 10)) (c.onInput m f) := fun m f hm => by
      simp only [fetchElement, State.onInput_expect, he, State.onInput_n, Config.minContainer, Nat.not_lt.mpr hl, if_false,
        fetchInput, hc.input hm]
    by_cases hw : leNat (d.take 10) % 2 ^ 24 = gzMagic
    · refine .of_next { c with
          gz := acceptHeader (BitVec.ofNat 8 (leNat (d.take 10) / 2 ^ 24)) { c.gz with endPos := c.n - 8 }
          expect := .gzopt } (fun m f hm => ?_)
        (State.Running.determined_of_gzopt { hc with } rfl (hc.n ▸ Nat.le_trans (by decide) hl))
      rw [hc.step, hfetch m f hm, fetchWord, decode, decodeGzhdr, if_pos hw, runFetched,
        exec_gzhdr (s := c.onInput m f) hl]
      rfl
    · exact .of_raise .badHeader fun m f hm =>
        ⟨_, by rw [hc.step, hfetch m f hm, fetchWord, decode, decodeGzhdr, if_neg hw, runFetched]; rfl⟩

/-- `DECOMPRESS` of `d` as it starts. -/
def decompressing (d : List Byte) : State :=
  { startCommand { State.reset with cmd := 2, inLen := d.length } with phase := .dHeader, expect := .gzhdr }

theorem determined_decompressing (d : List Byte) : Determined d (decompressing d) :=
  State.Running.determined_of_gzhdr ⟨rfl, rfl, statusBusy_busy, rfl⟩ rfl

end Sys2Proof.Machine
end

section
/-! The result of a command is a function of the command and of its input alone (spec/70_reset_and_hazards.md R362). -/

namespace Sys2Proof.Machine

theorem whenIdle_of_not_busy {s : State} (hb : s.busy = false) (t : StepResult) : whenIdle s t = t :=
  if_neg (hb ▸ Bool.false_ne_true)

/-- A command starts in a state that has nothing of the quiet core before it but the memory and the count of free values
(R41, R260). -/
theorem step_withCommand_compress {s : State} {d : List Byte} (hq : s.Quiet) (hl : d.length = s.inLen) :
    step (s.withCommand 1) =
      .next ((compressing d compressUops .cTokenize BW.empty (TK.start []) Config.crcInit).onInput s.inBuf s.free) := by
  obtain ⟨-, -, hb⟩ := hq
  rw [step_writeCmd (i := .compress) rfl (by decide), compressing, hl]
  exact whenIdle_of_not_busy hb _

theorem step_withCommand_decompress {s : State} {d : List Byte} (hq : s.Quiet) (hl : d.length = s.inLen) :
    step (s.withCommand 2) = .next ((decompressing d).onInput s.inBuf s.free) := by
  obtain ⟨-, -, hb⟩ := hq
  rw [step_writeCmd (i := .decompress) rfl (by decide), decompressing, hl]
  exact whenIdle_of_not_busy hb _

/-- A command has one result for an input, whatever quiet core runs it. -/
theorem result_of_command {cmd : BitVec 2} (hcmd : cmd = 1 ∨ cmd = 2) (d : List Byte) :
    ∃ k r, ∀ s : State, s.Quiet → s.Holds d →
      ∃ t, Host.Core.run Sys2Proof.core k (s.withCommand cmd) = .next t ∧ t.Shows r := by
  obtain ⟨c, ⟨k, r, hrun⟩, hstart⟩ : ∃ c, Determined d c ∧ ∀ s : State, s.Quiet → d.length = s.inLen →
      step (s.withCommand cmd) = .next (c.onInput s.inBuf s.free) := by
    rcases hcmd with rfl | rfl
    · exact ⟨_, determined_compressing d, fun _ => step_withCommand_compress⟩
    · exact ⟨_, determined_decompressing d, fun _ => step_withCommand_decompress⟩
  refine ⟨k + 1, r, fun s hq hh => ?_⟩
  obtain ⟨hl, hin⟩ := hh
  rw [run_succ_of_next (hstart s hq hl)]
  exact hrun s.inBuf s.free (hl ▸ hin)

/-- Settles O19: both runs show the one result that the command has for the input. -/
theorem resultDependsOnInputAlone : Obligations.ResultDependsOnInputAlone := fun s s' d c hc hq hq' hh hh' => by
  obtain ⟨k, r, hrun⟩ := result_of_command hc d
  obtain ⟨t, ht, hr⟩ := hrun s hq hh
  obtain ⟨t', ht', hr'⟩ := hrun s' hq' hh'
  exact ⟨k, t, t', ht, ht', hr.done, hr'.done, hr.agree hr'⟩

end Sys2Proof.Machine
end

section
/-! The decoder's two loops on the encoder's block, and members whose footer or trailing bytes differ
(spec/45_deflate_fixed_decoder.md R230, R239; spec/46_gzip_framer.md R272 to R274). -/

namespace Sys2Proof.Machine

theorem exec_decFixed (s : State) : exec .decFixed s = runInflater (readFixed s.inflater) s fun _ t => .next t := rfl

theorem exec_decInflate (s : State) : exec .decInflate s = runInflater (inflate s.inflater) s fun _ t => .next t := rfl

/-- Settles O46: `DEC.FIXED` reads the stream of valid tokens (`reads_readFixed`, by induction on the tokens). -/
theorem fixedBlocks : Obligations.FixedBlocks := fun s ts o hb hok he => by
  obtain ⟨h, hr⟩ := reads_readFixed hok he s.inflater hb rfl
  exact ⟨h, by rw [exec_decFixed, hr, runInflater_ok]; rfl⟩

/-- Settles O47: the header of a final fixed block, then `DEC.FIXED` on its tokens (`inflate_of_begins`). -/
theorem inflateDecodesTheEncodersBlock : Obligations.InflateDecodesTheEncodersBlock := fun s ts o hb hok he => by
  obtain ⟨h, hr⟩ := inflate_of_begins (d := s.inflater) hb hok he
  exact ⟨h, by rw [exec_decInflate, hr, runInflater_ok]; rfl⟩

/-- Settles O21: the proof that the member decompresses uses only that the tokens are valid (`decompressBytes_member`). -/
theorem roundTripForAnyTokenizer : Obligations.RoundTripForAnyTokenizer := fun x ts junk h => by
  rw [List.append_assoc gzHeader]
  exact decompressBytes_member h junk

/-- The member of valid tokens with any footer ends in the checks of that footer against the input (R272). -/
theorem decompressBytes_with_footer {x : List Byte} {ts : List Token} (h : ValidTokens x ts) (c z : Word32) :
    decompressBytes (gzHeader ++ blockBytes ts ++ leBytes 4 c.toNat ++ leBytes 4 z.toNat) =
      (checkFooter x c z).elim (.ok x) .error := by
  have hi : inflateBytes (blockBytes ts) = .ok x := by simpa using inflateBytes_blockBytes h []
  rw [List.append_assoc _ (leBytes 4 c.toNat), decompressBytes_of_inflateBytes hi]

theorem checkFooter_crc_wrong {out : List Byte} {c z : Word32} (hc : crc32 out ≠ c) (hz : BitVec.ofNat 32 out.length = z) :
    checkFooter out c z = some .crcMismatch := by
  rw [checkFooter, bne_iff_ne.mpr hc, hz, bne_self_eq_false, footerError]

theorem checkFooter_size_wrong {out : List Byte} {c z : Word32} (hc : crc32 out = c) (hz : BitVec.ofNat 32 out.length ≠ z) :
    checkFooter out c z = some .sizeMismatch := by
  rw [checkFooter, hc, bne_self_eq_false, bne_iff_ne.mpr hz, footerError]

/-- Settles O23: with one field of the footer wrong, the check of that field is the one that fails. -/
theorem corruptedFootersFail : Obligations.CorruptedFootersFail := fun x ts c z h => by
  refine ⟨fun hc => ?_, fun hz => ?_⟩
  · have hsize : x.length % 2 ^ 32 = (BitVec.ofNat 32 x.length).toNat := (BitVec.toNat_ofNat _ _).symm
    rw [hsize, decompressBytes_with_footer h, checkFooter_crc_wrong hc.symm rfl, Option.elim_some]
  · rw [decompressBytes_with_footer h, checkFooter_size_wrong rfl hz.symm, Option.elim_some]

/-! ### How much of the input the tokens stand for (R199 (d)) -/

/-- Tokens lengthen the output by their widths. -/
theorem length_of_expandFrom {ts : List Token} {o o' : List Byte} (he : expandFrom o ts = some o') :
    o'.length = o.length + (ts.map Token.width).sum := by
  induction ts generalizing o with
  | nil =>
    obtain rfl := Option.some.inj he
    rfl
  | cons t ts ih =>
    rw [List.map_cons, List.sum_cons, ← Nat.add_assoc]
    cases t with
    | lit b => exact (ih he).trans (by rw [List.length_append]; rfl)
    | mtch len dist =>
      obtain ⟨-, he⟩ := Option.ite_none_right_eq_some.mp he
      exact (ih he).trans (by rw [length_copyMatch]; rfl)

theorem width_pos_of_ok {t : Token} (ht : t.ok = true) : 1 ≤ t.width := by
  cases t with
  | lit b => exact Nat.le_refl 1
  | mtch len dist => exact Nat.le_trans (by decide) (range_of_matchOk ht).1

theorem length_le_sum_width {ts : List Token} (hok : ts.all Token.ok = true) :
    ts.length ≤ (ts.map Token.width).sum := by
  have hpos : ∀ w ∈ ts.map Token.width, 1 ≤ w :=
    List.forall_mem_map.mpr fun t ht => width_pos_of_ok (List.all_eq_true.mp hok t ht)
  simpa using List.length_le_sum_of_one_le _ hpos

/-- Settles O39: the tokens are valid (`validTokens_tokenize`, an invariant of R196's loop), and valid tokens lengthen the output by
their widths, each at least one byte. -/
theorem tokenizeContract : Obligations.TokenizeContract := fun d => by
  obtain ⟨hok, he⟩ := validTokens_tokenize d
  have hsum : ((tokenize d).map Token.width).sum = d.length := by simpa using (length_of_expandFrom he).symm
  exact ⟨⟨hok, he⟩, hsum, hsum ▸ length_le_sum_width hok⟩

end Sys2Proof.Machine
end

section
/-! The other operations of the bit writer and the bit reader, fields written and read back, the CRC unit, and the code law
(spec/40_bitstream.md; spec/41_crc32.md; spec/42_huffman.md section 4). -/

namespace Sys2Proof.Machine

/-! ### The writer (R140, R142, R143) -/

/-- What stands in the buffer already has no part in what is written. -/
theorem BW.putBit_append_buf (before : List Byte) (bw : BW) (b : Bool) :
    BW.putBit { bw with buf := before ++ bw.buf } b =
      { bw.putBit b with buf := before ++ (bw.putBit b).buf } := by
  unfold BW.putBit
  simp only
  split
  · rw [List.append_assoc]
  · rfl

theorem BW.writeBits_append_buf (before : List Byte) (bw : BW) (v n : Nat) :
    BW.writeBits { bw with buf := before ++ bw.buf } v n =
      { bw.writeBits v n with buf := before ++ (bw.writeBits v n).buf } := by
  induction n generalizing bw v with
  | zero => rfl
  | succ n ih => rw [BW.writeBits, BW.putBit_append_buf, ih]; rfl

theorem BW.writeBits_byte_empty (b : Byte) : BW.empty.writeBits b.toNat 8 = ⟨[b], 0, 0⟩ := by
  revert b
  decide +kernel

/-- On a byte boundary eight bits are one byte appended (R142). -/
theorem BW.writeBits_byte {bw : BW} (h : bw.Ok) (hc : bw.cnt = 0) (b : Byte) :
    bw.writeBits b.toNat 8 = bw.appendByte b := by
  have hacc := BW.acc_of_cnt_zero h hc
  obtain ⟨buf, acc, cnt⟩ := bw
  obtain rfl : cnt = 0 := hc
  obtain rfl : acc = 0 := hacc
  have hw := BW.writeBits_append_buf buf BW.empty b.toNat 8
  rw [BW.writeBits_byte_empty] at hw
  simpa [BW.empty, BW.appendByte] using hw

theorem exec_bwAppendbyte {s : State} (hc : s.bw.cnt = 0) (b : Byte) :
    exec (.bwAppendbyte b) s = .next { s with bw := s.bw.appendByte b } := if_pos hc

theorem exec_bwAppendbyte_of_unaligned {s : State} (hc : s.bw.cnt ≠ 0) (b : Byte) :
    exec (.bwAppendbyte b) s = .refused .unaligned := if_neg hc

/-- Settles O25: alignment pads by the bits pending, and eight bits written at a byte boundary are the byte itself. -/
theorem writerInitAlignAppend : Obligations.WriterInitAlignAppend := by
  refine fun s b => ⟨rfl, fun hok => ?_, fun hok hc => ⟨exec_bwAppendbyte hc b, ?_⟩, fun hc =>
    exec_bwAppendbyte_of_unaligned hc b⟩
  · have hn : s.bw.cnt % 8 = s.bw.bits.length % 8 := by rw [← BW.cnt_eq_length_bits_mod hok, Nat.mod_eq_of_lt hok.1]
    exact ⟨s.bw.align, rfl, BW.cnt_align _, BW.acc_align hok, BW.bits_align_padBits hok hn⟩
  · rw [exec_bwAppendbyte hc, exec_bwWritebits s _ (by decide), BW.writeBits_byte hok hc]

/-! ### The reader (R145, R149, R150) -/

theorem exec_brSkipbits (s : State) {n : Nat} (hn : n ≤ 16) :
    exec (.brSkipbits n) s = runReader (s.br.skipBits n) s fun _ t => .next t :=
  if_pos (bitCountOk_of_le hn)

theorem exec_brSkipbits_of_le_avail (s : State) {n : Nat} (hn : n ≤ 16) (ha : n ≤ s.br.avail) :
    exec (.brSkipbits n) s = .next { s with br := s.br.past n ((s.br.fill n).held - n) } := by
  rcases s.br.skipBits_cases n with ⟨-, hr⟩ | ⟨hlt, -⟩
  · rw [exec_brSkipbits s hn, hr, runReader_ok, BR.fill_advance_eq_past]
  · exact absurd ha (Nat.not_le.mpr hlt)

theorem exec_brSkipbits_of_avail_lt (s : State) {n : Nat} (hn : n ≤ 16) (ha : s.br.avail < n) :
    exec (.brSkipbits n) s = .next (raiseError .truncated s) := by
  rcases s.br.skipBits_cases n with ⟨hle, -⟩ | ⟨-, hr⟩
  · exact absurd ha (Nat.not_lt.mpr hle)
  · rw [exec_brSkipbits s hn, hr, runReader_raise]

/-- Settles O28: loaded bits end on a byte (R30), so what `ALIGN` drops of them is what it moves the cursor by. -/
theorem readerInitSkipAlign : Obligations.ReaderInitSkipAlign := by
  refine fun s => ⟨fun _ => rfl, fun n hn ha => ⟨_, exec_brSkipbits_of_le_avail s hn ha⟩,
    fun n hn ha => exec_brSkipbits_of_avail_lt s hn ha, 8 * ((s.br.bitpos + 7) / 8), s.br.held - s.br.held % 8, rfl,
    Nat.mul_mod_right 8 _, by omega, by omega, rfl, ?_⟩
  rintro ⟨hle, hbyte, -⟩
  omega

/-! ### Fields written and read back (R151) -/

/-- `WRITEBITS` looks at the low bits of its value alone. -/
theorem lowBits_mod (v n : Nat) : lowBits (v % 2 ^ n) n = lowBits v n := by
  refine List.map_congr_left fun i hi => ?_
  rw [Nat.testBit_mod_two_pow, decide_eq_true (List.mem_range.mp hi), Bool.true_and]

/-- The bits of a list of fields, each a value and a width. -/
def fieldBits (fields : List (Nat × Nat)) : List Bool := fields.flatMap fun f => lowBits f.1 f.2

theorem writeFields_ok {bw : BW} (h : bw.Ok) (fields : List (Nat × Nat)) :
    (fields.foldl (fun bw f => bw.writeBits f.1 f.2) bw).Ok := by
  induction fields generalizing bw with
  | nil => exact h
  | cons f fields ih => exact ih (BW.writeBits_ok h _ _)

theorem bits_writeFields {bw : BW} (h : bw.Ok) (fields : List (Nat × Nat)) :
    (fields.foldl (fun bw f => bw.writeBits f.1 f.2) bw).bits = bw.bits ++ fieldBits fields := by
  induction fields generalizing bw with
  | nil => exact (List.append_nil _).symm
  | cons f fields ih =>
    rw [List.foldl_cons, ih (BW.writeBits_ok h _ _), BW.bits_writeBits h, List.append_assoc, fieldBits, fieldBits,
      List.flatMap_cons]

/-- Where the unread bits begin with fields, reads of their widths return their values. -/
theorem readAll_of_begins {br : BR} {fields : List (Nat × Nat)} (hb : br.begins (fieldBits fields)) :
    readAll br (fields.map Prod.snd) = some (fields.map fun f => f.1 % 2 ^ f.2) := by
  induction fields generalizing br with
  | nil => rfl
  | cons f fields ih =>
    rw [fieldBits, List.flatMap_cons, ← fieldBits, ← lowBits_mod] at hb
    obtain ⟨hfirst, hrest⟩ := BR.begins_append hb
    obtain ⟨ha, hp⟩ := (br.begins_lowBits_iff (Nat.mod_lt _ (Nat.two_pow_pos _))).mp hfirst
    rcases br.readBits_cases f.2 with ⟨-, hr⟩ | ⟨hlt, -⟩
    · rw [length_lowBits] at hrest
      simp only [List.map_cons, readAll, hr, hp, BR.fill_advance_eq_past, ih (hrest _), Option.map_some]
    · exact absurd ha (Nat.not_le.mpr hlt)

/-- Settles O29: the writer's buffer holds the bits of the fields and the padding, and a reader on it reads field by field. -/
theorem writtenFieldsReadBack : Obligations.WrittenFieldsReadBack := by
  refine fun fields _ => readAll_of_begins (BR.begins_init ?_)
  have hok := writeFields_ok BW.empty_ok fields
  have hbits := BW.bits_align hok
  rw [bits_writeFields BW.empty_ok, BW.bits_empty, List.nil_append, BW.bits, BW.cnt_align, List.range_zero, List.map_nil,
    List.append_nil] at hbits
  rw [hbits]
  exact List.prefix_append _ _

/-! ### CRC-32 (R160 to R163) -/

/-- One shift-and-xor step is linear over the bits of the register. -/
theorem crcShift_xor (x y : Word32) : crcShift (x ^^^ y) = crcShift x ^^^ crcShift y := by
  unfold crcShift
  rw [BitVec.getLsbD_xor, BitVec.ushiftRight_xor_distrib]
  cases x.getLsbD 0 <;> cases y.getLsbD 0 <;> simp only [Bool.xor_self, Bool.xor_false, Bool.xor_true, Bool.not_false,
    Bool.false_eq_true, if_true, if_false]
  · rw [BitVec.xor_assoc]
  · rw [BitVec.xor_assoc, BitVec.xor_assoc, BitVec.xor_comm (y >>> 1)]
  · rw [BitVec.xor_assoc, BitVec.xor_comm (y >>> 1), ← BitVec.xor_assoc Config.crcPoly, BitVec.xor_self, BitVec.zero_xor]

theorem crcShift_iterate_xor (k : Nat) (x y : Word32) :
    crcShift^[k] (x ^^^ y) = crcShift^[k] x ^^^ crcShift^[k] y := by
  induction k generalizing x y with
  | zero => rfl
  | succ k ih => rw [Function.iterate_succ_apply, crcShift_xor, ih]; rfl

/-- While the low bits are zero a step only shifts. -/
theorem crcShift_iterate_of_low_zero {w : Word32} {k : Nat} (h : ∀ i < k, w.getLsbD i = false) :
    crcShift^[k] w = w >>> k := by
  induction k with
  | zero => exact (BitVec.ushiftRight_zero w).symm
  | succ k ih =>
    have hbit : (w >>> k).getLsbD 0 = false := by rw [BitVec.getLsbD_ushiftRight]; exact h k (Nat.lt_succ_self k)
    rw [Function.iterate_succ_apply', ih fun i hi => h i (Nat.lt_succ_of_lt hi), crcShift, if_neg (hbit ▸ Bool.false_ne_true),
      BitVec.shiftRight_add]

theorem crcTab_eq_iterate (k : Byte) : crcTab k = crcShift^[8] (k.setWidth 32) := rfl

/-- A register is its low byte and the bits above it. -/
theorem low_byte_xor_high (x : Word32) : (x.setWidth 8).setWidth 32 ^^^ (x >>> 8 <<< 8) = x := by
  ext i hi
  rw [BitVec.getElem_xor, BitVec.getElem_setWidth, BitVec.getElem_shiftLeft, BitVec.getLsbD_setWidth]
  by_cases h8 : i < 8
  · simp [h8, BitVec.getLsbD_eq_getElem hi]
  · simp [h8, show 8 + (i - 8) = i by omega, BitVec.getLsbD_eq_getElem hi]

/-- Eight steps on the register are one use of the table: the low byte goes through the table, the rest is shifted (R162). -/
theorem crcShift_iterate_eight (x : Word32) : crcShift^[8] x = crcTab (x.setWidth 8) ^^^ (x >>> 8) := by
  have hlow : ∀ i < 8, (x >>> 8 <<< 8).getLsbD i = false := fun i hi => by simp [hi]
  have hback : x >>> 8 <<< 8 >>> 8 = x >>> 8 := by
    ext i hi
    simp only [BitVec.getElem_ushiftRight, BitVec.getLsbD_shiftLeft, BitVec.getLsbD_ushiftRight]
    by_cases h : 8 + i < 32
    · simp [h]
    · simpa [h] using BitVec.getLsbD_of_ge x (8 + i) (by omega)
  conv_lhs => rw [← low_byte_xor_high x]
  rw [crcShift_iterate_xor, ← crcTab_eq_iterate, crcShift_iterate_of_low_zero hlow, hback]

/-- The byte folded in does not reach the bits above the low byte. -/
theorem xor_byte_ushiftRight (c : Word32) (b : Byte) : (c ^^^ b.setWidth 32) >>> 8 = c >>> 8 := by
  ext i hi
  simp [BitVec.getElem_ushiftRight, BitVec.getLsbD_xor]

theorem setWidth_and_byteMask (x : Word32) : (x &&& 0xFF#32).setWidth 8 = x.setWidth 8 := by
  have hmask : BitVec.setWidth 8 0xFF#32 = BitVec.allOnes 8 := by decide
  rw [BitVec.setWidth_and, hmask, BitVec.and_allOnes]

/-- Settles O31: the shift-and-xor step is linear (`crcShift_xor`), so eight of them act on the low byte and on the rest apart. -/
theorem crcOperations : Obligations.CrcOperations := by
  refine fun s b => ⟨rfl, ?_, ?_, rfl⟩
  · rw [setWidth_and_byteMask]; rfl
  · rw [crcShift_iterate_eight, xor_byte_ushiftRight]; rfl

/-! ### The code law (R180) -/

theorem exec_hdDist_of_begins {s : State} {d : Nat} (hd : d < 32) (hb : s.br.begins (codeBits d 5)) :
    ∃ h, exec .hdDist s = .next { s with br := s.br.past 5 h, result := .value d } := by
  obtain ⟨ha, hp⟩ := (s.br.begins_codeBits_iff d 5).mp hb
  rcases hdDist_cases s.br with ⟨-, hr⟩ | ⟨hlt, -⟩
  · exact ⟨_, by rw [exec_hdDist, hr, hp, rev_rev d 5 hd, runReader_ok, BR.fill_advance_eq_past]⟩
  · exact absurd ha (Nat.not_le.mpr hlt)

theorem exec_hdLitlen_of_begins {s : State} {sym : Nat} (hs : sym < 288)
    (hb : s.br.begins (codeBits (litlenCode sym).1 (litlenCode sym).2)) :
    ∃ h, exec .hdLitlen s = .next { s with br := s.br.past (litlenCode sym).2 h, result := .value sym } := by
  have ha := ((s.br.begins_codeBits_iff _ _).mp hb).1
  have hslot := litlenDec9_peek_of_begins hs hb
  have hexec := exec_hdLitlen_of_le_avail s (by rw [hslot]; exact ha)
  rw [hslot] at hexec
  exact ⟨_, hexec⟩

/-- Settles O34: what a fresh writer holds after one symbol is the symbol's code, and the decoder finds the code it begins with. -/
theorem codeLaw : Obligations.CodeLaw := by
  refine ⟨fun s sym hs hb => ?_, fun s d hd hb => ?_⟩
  · rw [bits_heLitlen BW.empty_ok, BW.bits_empty, List.nil_append] at hb
    exact exec_hdLitlen_of_begins hs hb
  · rw [bits_heDist BW.empty_ok, BW.bits_empty, List.nil_append] at hb
    exact exec_hdDist_of_begins hd hb

end Sys2Proof.Machine
end

section
/-! The encoder and the decoder agree (spec/30_encoding.md; spec/42_huffman.md R172). -/

namespace Sys2Proof.Machine

/-- Settles O1: each of the thirty-two words is read through the tables. -/
theorem wordsDecodeAsTheTableWrites : Obligations.WordsDecodeAsTheTableWrites := by
  unfold Obligations.WordsDecodeAsTheTableWrites
  decide +kernel

/-! ### Codes with extra bits above them (R101, R102) -/

/-- The decoder's nine-bit index of a symbol's code, whatever the bits above the code are, is a slot of that symbol (R175). -/
theorem litlenDec9_code_add {s : Nat} (hs : s < 288) (e : Nat) :
    litlenDec9 ((rev (litlenCode s).1 (litlenCode s).2 + e * 2 ^ (litlenCode s).2) % 512) = (s, (litlenCode s).2) := by
  obtain ⟨h7, h9, -⟩ := litlenCode_bounds s hs
  have hcode := litlenDec9_of_code s hs
  have hlt := rev_lt (litlenCode s).1 (litlenCode s).2
  generalize rev (litlenCode s).1 (litlenCode s).2 = c at *
  generalize (litlenCode s).2 = len at *
  have hsplit : (c + e * 2 ^ len) % 512 = c + e % 2 ^ (9 - len) * 2 ^ len := by
    rw [show 512 = 2 ^ len * 2 ^ (9 - len) by rw [← Nat.pow_add, Nat.add_sub_of_le h9], Nat.mod_mul,
      Nat.add_mul_mod_self_right, Nat.mod_eq_of_lt hlt, Nat.add_mul_div_right _ _ (Nat.two_pow_pos len),
      Nat.div_eq_of_lt hlt, Nat.zero_add, Nat.mul_comm]
  have hhi : e % 2 ^ (9 - len) < 4 :=
    (Nat.mod_lt _ (Nat.two_pow_pos _)).trans_le (Nat.pow_le_pow_right (by decide) (by omega : 9 - len ≤ 2))
  rw [hsplit]
  exact hcode _ hhi (hsplit ▸ Nat.mod_lt _ (by decide))

theorem decode_encodeLitlen {s : Nat} (hs : s < 288) (e : Nat) :
    decode .litlen (encodeLitlen s e).word = .ok (symbolInstr s e) := by
  rw [decode, encodeLitlen, litlenDec9_code_add hs, Nat.add_mul_div_right _ _ (Nat.two_pow_pos _),
    Nat.div_eq_of_lt (rev_lt _ _), Nat.zero_add]

theorem decode_encodeDist {j : Nat} (hj : j < 32) (x : Nat) :
    decode .dist (encodeDist j x).word = .ok (distInstr j x) := by
  have hlt : rev j 5 < 32 := rev_lt j 5
  have hmod : (rev j 5 + x * 2 ^ 5) % 32 = rev j 5 := by omega
  have hdiv : (rev j 5 + x * 2 ^ 5) / 32 = x := by omega
  rw [decode, encodeDist, hmod, hdiv, rev_rev j 5 hj]

theorem decode_encodeBlock {btype : Nat} (hb : btype < 4) (f : BitVec 1) :
    decode .blkhdr (Sys2Proof.encodeBlock btype f).word = .ok (blockInstr btype f) := by
  have hf : f.toNat < 2 := f.isLt
  have hdiv : (f.toNat + btype * 2) / 2 % 4 = btype := by omega
  have hbit : BitVec.ofNat 1 (f.toNat + btype * 2) = f := BitVec.eq_of_toNat_eq (by rw [BitVec.toNat_ofNat]; omega)
  rw [decode, Sys2Proof.encodeBlock, hdiv, hbit]

/-- Low bits of a register below others are read back. -/
theorem ofNat_toNat_add_mul {w : Nat} (b : BitVec w) (k : Nat) : BitVec.ofNat w (b.toNat + k * 2 ^ w) = b :=
  BitVec.eq_of_toNat_eq (by rw [BitVec.toNat_ofNat, Nat.add_mul_mod_self_right, Nat.mod_eq_of_lt b.isLt])

theorem decode_encode_storedBody (len nlen : BitVec 16) :
    decode .stored (encode (.storedBody len nlen)).word = .ok (.storedBody len nlen) := by
  have hlen := len.isLt
  have hdiv : (len.toNat + nlen.toNat * 2 ^ 16) / 2 ^ 16 = nlen.toNat := by omega
  rw [decode, encode, hdiv, ofNat_toNat_add_mul, BitVec.ofNat_toNat, BitVec.setWidth_eq]

theorem decode_encode_gzftr (crc size : Word32) :
    decode .gzftr (encode (.gzftr crc size)).word = .ok (.gzftr crc size) := by
  have hcrc := crc.isLt
  have hdiv : (crc.toNat + size.toNat * 2 ^ 32) / 2 ^ 32 = size.toNat := by omega
  rw [decode, encode, hdiv, ofNat_toNat_add_mul, BitVec.ofNat_toNat, BitVec.setWidth_eq]

theorem decode_encode_gzhdr (flg : Byte) (mtime : BitVec 32) (xfl os : Byte) :
    decode .gzhdr (encode (.gzhdr flg mtime xfl os)).word = .ok (.gzhdr flg mtime xfl os) := by
  have hflg := flg.isLt
  have hmtime := mtime.isLt
  have hxfl := xfl.isLt
  have hword : (encode (.gzhdr flg mtime xfl os)).word = gzMagic +
      (flg.toNat + (mtime.toNat + (xfl.toNat + os.toNat * 2 ^ 8) * 2 ^ 32) * 2 ^ 8) * 2 ^ 24 := by
    simp only [encode]
    omega
  have hmagic : gzMagic < 2 ^ 24 := by decide
  rw [hword, decode, decodeGzhdr]
  generalize gzMagic = magic at *
  rw [if_pos (by omega),
    show (magic + (flg.toNat + (mtime.toNat + (xfl.toNat + os.toNat * 2 ^ 8) * 2 ^ 32) * 2 ^ 8) * 2 ^ 24) / 2 ^ 24 =
      flg.toNat + (mtime.toNat + (xfl.toNat + os.toNat * 2 ^ 8) * 2 ^ 32) * 2 ^ 8 by omega,
    show (magic + (flg.toNat + (mtime.toNat + (xfl.toNat + os.toNat * 2 ^ 8) * 2 ^ 32) * 2 ^ 8) * 2 ^ 24) / 2 ^ 32 =
      mtime.toNat + (xfl.toNat + os.toNat * 2 ^ 8) * 2 ^ 32 by omega,
    show (magic + (flg.toNat + (mtime.toNat + (xfl.toNat + os.toNat * 2 ^ 8) * 2 ^ 32) * 2 ^ 8) * 2 ^ 24) / 2 ^ 64 =
      xfl.toNat + os.toNat * 2 ^ 8 by omega,
    show (magic + (flg.toNat + (mtime.toNat + (xfl.toNat + os.toNat * 2 ^ 8) * 2 ^ 32) * 2 ^ 8) * 2 ^ 24) / 2 ^ 72 =
      os.toNat by omega,
    ofNat_toNat_add_mul, ofNat_toNat_add_mul, ofNat_toNat_add_mul, BitVec.ofNat_toNat, BitVec.setWidth_eq]

/-! ### Unit operations (R132, log entry 4) -/

/-- The select code and the operands of a unit operation's word. -/
theorem encodeUop_word {code : Nat} (hc : code < 256) (k operand : Nat) :
    (encodeUop code k operand).word % 256 = code ∧ (encodeUop code k operand).word / 2 ^ 8 = operand ∧
      (encodeUop code k operand).word / 2 ^ 13 = operand / 2 ^ 5 ∧
      (encodeUop code k operand).word / 2 ^ 16 = operand / 2 ^ 8 ∧
      (encodeUop code k operand).word / 2 ^ 40 = operand / 2 ^ 32 := by
  simp only [encodeUop]
  omega

theorem le_of_bitCountOk {n : Nat} (hn : bitCountOk n = true) : n ≤ 16 := of_decide_eq_true hn

theorem withBitCount_mod {n : Nat} (hn : bitCountOk n = true) (i : Nat → Instr) :
    withBitCount (n % 32) (i (n % 32)) = .ok (i n) := by
  have h16 := le_of_bitCountOk hn
  rw [Nat.mod_eq_of_lt (by omega), withBitCount, if_pos hn]

/-- A match's length is stored less 3 and its distance less 1. -/
theorem matchOperand_parts {len dist : Nat} (hm : matchOk len dist = true) :
    (len - 3 + (dist - 1) * 2 ^ 8) % 256 + 3 = len ∧ (len - 3 + (dist - 1) * 2 ^ 8) / 2 ^ 8 % 32768 + 1 = dist := by
  obtain ⟨hlo, hhi, dlo, dhi⟩ := range_of_matchOk hm
  omega

/-- `BR.INIT`'s operand is its byte count and then the bytes. -/
theorem brInitOperand_parts {src : List Byte} (hs : src.length < 2 ^ 32) :
    (src.length + leNat src * 2 ^ 32) % 2 ^ 32 = src.length ∧ (src.length + leNat src * 2 ^ 32) / 2 ^ 32 = leNat src := by
  omega

/-- The unit operations, by their select codes. -/
theorem decode_encode_uop {i : Instr} (hf : i.format = .uop) (hw : WellFormed i = true) :
    decode .uop (encode i).word = .ok i := by
  have word {code : Nat} (hc : code < 256) (k operand : Nat) := encodeUop_word hc k operand
  cases i
  case bwWritebits v n =>
    have h16 := le_of_bitCountOk hw
    have hval : (n + v * 2 ^ 5) / 2 ^ 5 = v := by omega
    have hcount : (n + v * 2 ^ 5) % 32 = n % 32 := by omega
    simp only [decode, encode, decodeUop, word (show 0x11 < 256 by decide), hval, hcount]
    exact withBitCount_mod hw (.bwWritebits v)
  case bwAppendbyte b =>
    simp only [decode, encode, decodeUop, word (show 0x13 < 256 by decide), BitVec.ofNat_toNat, BitVec.setWidth_eq]
  case brInit src =>
    obtain ⟨hlen, hbytes⟩ := brInitOperand_parts (of_decide_eq_true hw)
    simp only [decode, encode, decodeUop, word (show 0x20 < 256 by decide), hlen, hbytes, leBytes_leNat]
  case brReadbits n =>
    simp only [decode, encode, decodeUop, word (show 0x21 < 256 by decide)]
    exact withBitCount_mod hw .brReadbits
  case brPeekbits n =>
    simp only [decode, encode, decodeUop, word (show 0x22 < 256 by decide)]
    exact withBitCount_mod hw .brPeekbits
  case brSkipbits n =>
    simp only [decode, encode, decodeUop, word (show 0x24 < 256 by decide)]
    exact withBitCount_mod hw .brSkipbits
  case crcUpdate b =>
    simp only [decode, encode, decodeUop, word (show 0x31 < 256 by decide), BitVec.ofNat_toNat, BitVec.setWidth_eq]
  case heLitlen sym =>
    have hs : sym < 288 := of_decide_eq_true hw
    simp only [decode, encode, decodeUop, word (show 0x40 < 256 by decide), Nat.mod_eq_of_lt (show sym < 512 by omega)]
    exact if_pos hs
  case heDist d =>
    have hd : d < 32 := of_decide_eq_true hw
    simp only [decode, encode, decodeUop, word (show 0x41 < 256 by decide), Nat.mod_eq_of_lt hd]
  case tkInsert c => simp only [decode, encode, decodeUop, word (show 0x60 < 256 by decide)]
  case tkFindmatch q => simp only [decode, encode, decodeUop, word (show 0x61 < 256 by decide)]
  case encLiteral b =>
    simp only [decode, encode, decodeUop, word (show 0x71 < 256 by decide), BitVec.ofNat_toNat, BitVec.setWidth_eq]
  case encMatch len dist =>
    simp only [decode, encode, decodeUop, word (show 0x72 < 256 by decide), matchOperand_parts hw]
  case decCopy len dist =>
    simp only [decode, encode, decodeUop, word (show 0x84 < 256 by decide), matchOperand_parts hw]
  case bwInit | bwAlign | brAlign | crcInit | crcFinal | hdLitlen | hdDist | tkTokenize | encBlock | encEob | decInflate |
      decBlkhdr | decStored | decFixed | gzWritehdr | gzWriteftr | gzParsehdr | gzCheckftr => rfl
  all_goals exact nomatch hf

/-- Settles O2: an element's code is the slot of its symbol whatever follows it (`litlenDec9_code_add`), and the fields of the other
formats do not overlap. -/
theorem decodeInvertsEncode : Obligations.DecodeInvertsEncode := by
  intro i hw
  have lit {s : Nat} (hs : s < 288) (e : Nat) := decode_encodeLitlen hs e
  have dist {j : Nat} (hj : j < 32) (x : Nat) := decode_encodeDist hj x
  cases i
  case len257 | len258 | len259 | len260 | len261 | len262 | len263 | len264 | len285 | eob | reservedLitlen286 |
      reservedLitlen287 => exact lit (by decide) 0
  case len265 e | len266 e | len267 e | len268 e | len269 e | len270 e | len271 e | len272 e | len273 e | len274 e |
      len275 e | len276 e | len277 e | len278 e | len279 e | len280 e | len281 e | len282 e | len283 e | len284 e =>
    refine (lit (by decide) e.toNat).trans ?_
    simp [symbolInstr, lenInstr]
  case dist0 | dist1 | dist2 | dist3 | reservedDist30 | reservedDist31 => exact dist (by decide) 0
  case dist4 x | dist5 x | dist6 x | dist7 x | dist8 x | dist9 x | dist10 x | dist11 x | dist12 x | dist13 x | dist14 x |
      dist15 x | dist16 x | dist17 x | dist18 x | dist19 x | dist20 x | dist21 x | dist22 x | dist23 x | dist24 x |
      dist25 x | dist26 x | dist27 x | dist28 x | dist29 x =>
    refine (dist (by decide) x.toNat).trans ?_
    simp [distInstr]
  case blkStored f | blkFixed f | blkDynamic f | blkReserved f => exact decode_encodeBlock (by decide) f
  case storedBody len nlen => exact decode_encode_storedBody len nlen
  case gzhdr flg mtime xfl os => exact decode_encode_gzhdr flg mtime xfl os
  case gzftr crc size => exact decode_encode_gzftr crc size
  case gzoptFextra | gzoptFname | gzoptFcomment | gzoptFhcrc | cmdNone | compress | decompress | cmdReserved => rfl
  case bwInit | bwWritebits | bwAlign | bwAppendbyte | brInit | brReadbits | brPeekbits | brAlign | brSkipbits | crcInit |
      crcUpdate | crcFinal | heLitlen | heDist | hdLitlen | hdDist | tkInsert | tkFindmatch | tkTokenize | encBlock |
      encLiteral | encMatch | encEob | decInflate | decBlkhdr | decStored | decFixed | decCopy | gzWritehdr | gzWriteftr |
      gzParsehdr | gzCheckftr => exact decode_encode_uop rfl hw
  -- The 256 literals.
  all_goals exact lit (by decide) 0

end Sys2Proof.Machine
end

section
/-! What the decoder answers (spec/30_encoding.md sections 1 to 6), and that the two fixed codes are prefix codes that leave no bit
sequence without a symbol (spec/42_huffman.md R172). -/

namespace Sys2Proof.Machine

/-- An instruction belongs to a format and every operand is in range. -/
def FitsFormat (i : Instr) (f : Format) : Prop := i.format = f ∧ WellFormed i = true

theorem litRows_fit : ∀ i ∈ litRows, FitsFormat i .litlen := by unfold FitsFormat; decide +kernel

theorem length_litRows : litRows.length = 256 := by decide +kernel

theorem litInstr_fits (b : Byte) : FitsFormat (litInstr b) .litlen := by
  have hlt : b.toNat < litRows.length := length_litRows ▸ b.isLt
  rw [litInstr, List.getD_eq_getElem _ _ hlt]
  exact litRows_fit _ (List.getElem_mem hlt)

theorem lenInstr_fits (i e : Nat) : FitsFormat (lenInstr i e) .litlen := by
  unfold lenInstr
  split <;> exact ⟨rfl, rfl⟩

theorem distInstr_fits (j x : Nat) : FitsFormat (distInstr j x) .dist := by
  unfold distInstr
  split <;> exact ⟨rfl, rfl⟩

theorem symbolInstr_fits (s e : Nat) : FitsFormat (symbolInstr s e) .litlen := by
  unfold symbolInstr
  split_ifs
  · exact litInstr_fits _
  · exact ⟨rfl, rfl⟩
  · exact lenInstr_fits _ _
  · exact ⟨rfl, rfl⟩
  · exact ⟨rfl, rfl⟩

theorem blockInstr_fits (btype : Nat) (f : BitVec 1) : FitsFormat (blockInstr btype f) .blkhdr := by
  unfold blockInstr
  split <;> exact ⟨rfl, rfl⟩

theorem withBitCount_eq_ok {n : Nat} {i j : Instr} (h : withBitCount n i = .ok j) : bitCountOk n = true ∧ j = i := by
  unfold withBitCount at h
  split at h
  · exact ⟨‹_›, (Except.ok.inj h).symm⟩
  · cases h

/-- A unit operation's operands are cut to the ranges of their fields, or checked. -/
theorem decodeUop_fits {w : Nat} {i : Instr} (h : decodeUop w = .ok i) : FitsFormat i .uop := by
  have count {n : Nat} {op : Instr} (h : withBitCount n op = .ok i) (hop : bitCountOk n = true → FitsFormat op .uop) :
      FitsFormat i .uop := by
    obtain ⟨hn, rfl⟩ := withBitCount_eq_ok h
    exact hop hn
  have matchOperands (a b : Nat) : matchOk (a % 256 + 3) (b % 32768 + 1) = true :=
    matchOk_of_range (by omega) (by omega) (by omega) (by omega)
  unfold decodeUop at h
  split at h
  case h_2 => exact count h fun hn => ⟨rfl, hn⟩
  case h_5 =>
    cases h
    exact ⟨rfl, decide_eq_true (by rw [length_leBytes]; exact Nat.mod_lt _ (by decide))⟩
  case h_6 | h_7 | h_9 => exact count h fun hn => ⟨rfl, hn⟩
  case h_13 =>
    split at h
    · cases h; exact ⟨rfl, decide_eq_true ‹_›⟩
    · cases h
  case h_14 => cases h; exact ⟨rfl, decide_eq_true (Nat.mod_lt _ (by decide))⟩
  case h_22 | h_28 => cases h; exact ⟨rfl, matchOperands _ _⟩
  all_goals cases h
  all_goals exact ⟨rfl, rfl⟩

theorem decodeGzopt_fits {w : Nat} {i : Instr} (h : decodeGzopt w = .ok i) : FitsFormat i .gzopt := by
  unfold decodeGzopt at h
  split_ifs at h <;> cases h <;> exact ⟨rfl, rfl⟩

/-- Settles O3, format by format. -/
theorem decodedInstructionsFitTheirFormat : Obligations.DecodedInstructionsFitTheirFormat := by
  intro f w i h
  show FitsFormat i f
  cases f with
  | litlen => cases h; exact symbolInstr_fits _ _
  | dist => cases h; exact distInstr_fits _ _
  | blkhdr => cases h; exact blockInstr_fits _ _
  | stored => cases h; exact ⟨rfl, rfl⟩
  | gzhdr =>
    rw [decode, decodeGzhdr] at h
    split_ifs at h
    cases h
    exact ⟨rfl, rfl⟩
  | gzopt => exact decodeGzopt_fits h
  | gzftr => cases h; exact ⟨rfl, rfl⟩
  | cmd =>
    rw [decode] at h
    split at h <;> cases h <;> exact ⟨rfl, rfl⟩
  | uop => exact decodeUop_fits h

/-! ### Prefix codes (R172) -/

/-- When an integer's low bits are a prefix of another's, the two integers agree there. -/
theorem mod_eq_of_lowBits_prefix {v v' n n' : Nat} (h : lowBits v n <+: lowBits v' n') :
    n ≤ n' ∧ v % 2 ^ n = v' % 2 ^ n := by
  have hle : n ≤ n' := by simpa using h.length_le
  refine ⟨hle, Nat.eq_of_testBit_eq fun i => ?_⟩
  rw [Nat.testBit_mod_two_pow, Nat.testBit_mod_two_pow]
  by_cases hi : i < n
  · have hbit := h.getElem (by simpa using hi)
    simp only [lowBits, List.getElem_map, List.getElem_range] at hbit
    rw [hbit]
  · rw [decide_eq_false hi, Bool.false_and, Bool.false_and]

theorem rev_eq_of_codeBits_prefix {c c' n n' : Nat} (h : codeBits c n <+: codeBits c' n') :
    n ≤ n' ∧ rev c' n' % 2 ^ n = rev c n := by
  rw [← lowBits_rev, ← lowBits_rev] at h
  obtain ⟨hle, hmod⟩ := mod_eq_of_lowBits_prefix h
  exact ⟨hle, by rw [← hmod, Nat.mod_eq_of_lt (rev_lt c n)]⟩

/-- The index that is one code is in the slot of any code it begins with, so the two have one symbol. -/
theorem litlenCode_prefix_free {s s' : Nat} (hs : s < 288) (hs' : s' < 288)
    (h : codeBits (litlenCode s).1 (litlenCode s).2 <+: codeBits (litlenCode s').1 (litlenCode s').2) : s = s' := by
  obtain ⟨-, hmod⟩ := rev_eq_of_codeBits_prefix h
  have hslot := litlenDec9_code_add hs (rev (litlenCode s').1 (litlenCode s').2 / 2 ^ (litlenCode s).2)
  have hslot' := litlenDec9_code_add hs' 0
  rw [← hmod, Nat.mod_add_div'] at hslot
  rw [Nat.zero_mul, Nat.add_zero, hslot] at hslot'
  exact congrArg Prod.fst hslot'

theorem distCode_prefix_free {j j' : Nat} (hj : j < 32) (hj' : j' < 32) (h : codeBits j 5 <+: codeBits j' 5) : j = j' := by
  obtain ⟨-, hmod⟩ := rev_eq_of_codeBits_prefix h
  rw [Nat.mod_eq_of_lt (rev_lt j' 5)] at hmod
  rw [← rev_rev j 5 hj, ← hmod, rev_rev j' 5 hj']

/-- Every word begins with the code of the symbol in the slot of its low nine bits. -/
theorem litlenCode_complete (w : Nat) :
    ∃ s, s < 288 ∧ w % 2 ^ (litlenCode s).2 = rev (litlenCode s).1 (litlenCode s).2 ∧
      decode .litlen w = .ok (symbolInstr s (w / 2 ^ (litlenCode s).2)) := by
  obtain ⟨hs, hlen, hcode⟩ := litlenDec9_slot (w % 512) (Nat.mod_lt _ (by decide))
  have h9 := (litlenCode_bounds _ hs).2.1
  refine ⟨(litlenDec9 (w % 512)).1, hs, ?_, by rw [decode, hlen]⟩
  rw [← hlen, ← hcode, show 512 = 2 ^ 9 from rfl, Nat.mod_mod_of_dvd _ (Nat.pow_dvd_pow 2 (hlen ▸ h9))]

theorem distCode_complete (w : Nat) :
    ∃ j, j < 32 ∧ w % 2 ^ 5 = rev j 5 ∧ decode .dist w = .ok (distInstr j (w / 2 ^ 5)) :=
  ⟨rev (w % 32) 5, rev_lt _ 5, (rev_rev _ 5 (Nat.mod_lt _ (by decide))).symm, rfl⟩

/-- Settles O4: both halves follow from the decode table, one index having one slot. -/
theorem codesArePrefixFreeAndComplete : Obligations.CodesArePrefixFreeAndComplete :=
  ⟨fun _ _ hs hs' h => litlenCode_prefix_free hs hs' h, litlenCode_complete,
    fun _ _ hj hj' h => distCode_prefix_free hj hj' h, distCode_complete⟩

end Sys2Proof.Machine
end

section
/-! Steps of the host and of the sequencer, the start and the end of a command, error entry and refusals (spec/10_state.md;
spec/46_gzip_framer.md R260, R266; spec/60_exceptions.md; spec/70_reset_and_hazards.md). -/

namespace Sys2Proof.Machine

/-! ### Which instruction a step runs (R267) -/

/-- While a command runs and no unit operation is listed, a step reads the next element of the stream. -/
theorem step_element {s : State} (hin : s.inbox = []) (hu : s.uops = []) (hb : s.busy = true) :
    step s = runFetched s (fetchElement s) := by
  simp only [step, hin, coreStep, fetch, hu, hb, if_true]

theorem runFetched_fetchWord {f : Format} {w : Nat} {i : Instr} (hd : decode f w = .ok i) (s t : State) :
    runFetched s (fetchWord f w t) = exec i t := by
  rw [fetchWord, hd, runFetched]

theorem fetchInput_eq {s : State} {d : List Byte} (h : s.input = some d) (k : List Byte → Fetched) :
    fetchInput s k = k d := by
  rw [fetchInput, h]

/-- None of the four bits of `FLG` that announce a field is set. -/
theorem decode_gzopt_of_none {opt : Byte} (h : opt &&& 0x1E#8 = 0) :
    decode .gzopt opt.toNat = .error .noOptionalField := by
  revert h opt
  decide +kernel

section Element

variable {s : State} (hin : s.inbox = []) (hu : s.uops = []) (hb : s.busy = true)
include hin hu hb

theorem step_blkhdr {i : Instr} (he : s.expect = .blkhdr)
    (hd : decode .blkhdr (bitsAt s.br.src s.br.bitpos 3) = .ok i) : step s = exec i s := by
  simp only [step_element hin hu hb, fetchElement, he, runFetched_fetchWord hd]

theorem step_litlen {i : Instr} (he : s.expect = .litlen)
    (hd : decode .litlen (bitsAt s.br.src s.br.bitpos 14) = .ok i) : step s = exec i s := by
  simp only [step_element hin hu hb, fetchElement, he, runFetched_fetchWord hd]

theorem step_dist {i : Instr} (he : s.expect = .dist)
    (hd : decode .dist (bitsAt s.br.src s.br.bitpos 18) = .ok i) : step s = exec i s := by
  simp only [step_element hin hu hb, fetchElement, he, runFetched_fetchWord hd]

theorem step_stored {i : Instr} (he : s.expect = .stored)
    (hd : decode .stored (bitsAt s.br.src s.br.align.bitpos 32) = .ok i) : step s = exec i s := by
  simp only [step_element hin hu hb, fetchElement, he, runFetched_fetchWord hd]

theorem step_gzopt {i : Instr} (he : s.expect = .gzopt) (hd : decode .gzopt s.gz.opt.toNat = .ok i) :
    step s = exec i s := by
  simp only [step_element hin hu hb, fetchElement, he, hd, runFetched]

variable {d : List Byte} (hi : s.input = some d)
include hi

theorem step_gzhdr {i : Instr} (he : s.expect = .gzhdr) (hn : 18 ≤ s.n)
    (hd : decode .gzhdr (leNat (d.take 10)) = .ok i) : step s = exec i s := by
  simp only [step_element hin hu hb, fetchElement, he, if_neg (Nat.not_lt.mpr hn), fetchInput_eq hi,
    runFetched_fetchWord hd]

/-- With no field left the payload is handed to the reader (R271). -/
theorem step_gzopt_of_none (he : s.expect = .gzopt) (ho : s.gz.opt &&& 0x1E#8 = 0) :
    step s = exec (.brInit (payload d s.gz)) (enterInflate s) := by
  simp only [step_element hin hu hb, fetchElement, he, decode_gzopt_of_none ho, fetchInput_eq hi, runFetched]

theorem step_gzftr {i : Instr} (he : s.expect = .gzftr) (hn : 8 ≤ s.n)
    (hd : decode .gzftr (leNat (d.drop (s.n - 8))) = .ok i) : step s = exec i s := by
  have hlen : (d.drop (s.n - 8)).length = 8 := by rw [List.length_drop, State.length_input hi]; omega
  rw [← List.take_of_length_le hlen.le] at hd
  simp only [step_element hin hu hb, fetchElement, he, if_neg (Nat.not_lt.mpr hn), fetchInput_eq hi,
    runFetched_fetchWord hd]

end Element

/-- Settles O5: one lemma for each place the core reads its next word from. -/
theorem stepRunsTheDecodedInstruction : Obligations.StepRunsTheDecodedInstruction := by
  refine ⟨fun s c rest i hin hd => step_writeCmd hin hd, fun s w rest i hin hu hd => step_uop hin hu hd,
    fun s i hin hu hb => ⟨step_blkhdr hin hu hb, step_litlen hin hu hb, step_dist hin hu hb, step_stored hin hu hb,
      step_gzopt hin hu hb, fun d hi => ⟨step_gzhdr hin hu hb hi, step_gzopt_of_none hin hu hb hi,
        step_gzftr hin hu hb hi⟩⟩⟩

/-! ### Reset, completion and waiting (R44, R266) -/

theorem reset_statusOk : State.reset.StatusOk := ⟨rfl, by decide, by decide, fun _ => rfl, fun h => absurd h (by decide)⟩

theorem reset_sequencerOk : State.reset.SequencerOk :=
  ⟨⟨fun _ => rfl, fun _ => rfl⟩, ⟨by decide, by decide⟩, fun h => absurd h (by decide)⟩

/-- Settles O7: every table is empty and every register is zero. -/
theorem resetSatisfiesInvariant : Obligations.ResetSatisfiesInvariant where
  memory := rfl
  head := rfl
  prev := rfl
  writer := BW.empty_ok
  reader := BR.init_ok []
  status := reset_statusOk
  sequencer := reset_sequencerOk
  outLen := Nat.le_refl 0

/-- Completion writes `STATUS`, `PHASE`, `OUT` and `OUT_LEN`; the sequencer's registers are empty already. -/
theorem finishCommand_eq {s : State} (hu : s.uops = []) (he : s.expect = .nothing) :
    finishCommand s = { s with status := 0x02#8, phase := .idle, out := s.outBytes, outLen := s.outBytes.length } := by
  simp only [finishCommand, completeCommand, statusSuccess_eq, hu, he]

/-- Settles O9: completion stores the space `OUT`, and a quiet core waits. -/
theorem commandsCompleteAndTheCoreWaits : Obligations.CommandsCompleteAndTheCoreWaits :=
  ⟨fun s hin hu hb he => ⟨_, s.outBytes, step_finish hin hu hb he, rfl, finishCommand_eq hu he⟩, fun _ => step_of_quiet⟩

/-! ### Error entry (R320) -/

theorem statusError_not_busy (e : ErrKind) : (statusError e).getLsbD 0 = false := by cases e <;> decide

/-- After an error the core is idle. -/
theorem raiseError_quiet (e : ErrKind) {s : State} (hin : s.inbox = []) : (raiseError e s).Quiet :=
  ⟨hin, rfl, statusError_not_busy e⟩

theorem raiseError_hostOutByte (e : ErrKind) (s : State) (a : Nat) : (raiseError e s).hostOutByte a = none :=
  if_neg (Nat.not_lt_zero a)

/-- Settles O10: the fields `raiseError` writes, and the codes and classes kind by kind. -/
theorem errorEntry : Obligations.ErrorEntry := by
  refine ⟨fun e s => ⟨Config.freeOut s.free, by rw [raiseError, statusError_eq]⟩, fun e s => ?_, rfl, ?_, ?_, ?_, ?_⟩
  · exact ⟨statusError_done e, raiseError_hostOutByte e s, fun hin => step_of_quiet (raiseError_quiet e hin)⟩
  all_goals
    intro e
    cases e <;> decide

/-! ### The start of a command (R260) and the host's accesses (R355) -/

/-- Settles O12: an idle core runs the command, and `startCommand` names every field. -/
theorem commandsStart : Obligations.CommandsStart := fun _ hb =>
  ⟨whenIdle_of_not_busy hb _, whenIdle_of_not_busy hb _, whenIdle_of_not_busy hb _⟩

/-- Settles O13: each event is one case of `hostStep`. -/
theorem hostAccesses : Obligations.HostAccesses := by
  refine fun s rest => ⟨fun a b h => ?_, fun k h => ?_, fun h => ?_, fun a h => ?_, fun a b x => ?_, fun h => ?_,
    fun a h => ?_, fun h => ?_, fun h => ?_⟩
  case refine_5 => exact Memory.read_write s.inBuf a x b
  all_goals
    rw [step_of_inbox_cons h]
    rfl

/-! ### Refusals (U11, U12, log entry 14) -/

theorem bitCountOk_of_lt {n : Nat} (hn : 16 < n) : ¬bitCountOk n = true := fun h => absurd (of_decide_eq_true h) (Nat.not_le.mpr hn)

theorem not_matchOk {len dist : Nat} (h : len < 3 ∨ 258 < len ∨ dist < 1 ∨ 32768 < dist) : ¬matchOk len dist = true := by
  intro hm
  obtain ⟨hlo, hhi, dlo, dhi⟩ := range_of_matchOk hm
  omega

/-- Settles O30: each operation checks its operand or its precondition first. -/
theorem outOfRangeOperandsAreRefused : Obligations.OutOfRangeOperandsAreRefused := by
  refine fun s v n len dist => ⟨fun hn => ?_, fun hn => if_neg (Nat.not_lt.mpr hn), fun hn => if_neg (Nat.not_lt.mpr hn),
    fun hm => ?_, fun ho => ?_, fun hc => if_neg hc, fun hc => ?_⟩
  · have h := bitCountOk_of_lt hn
    exact ⟨if_neg h, if_neg h, if_neg h, if_neg h⟩
  · have h := not_matchOk hm
    exact ⟨if_neg h, if_neg fun hand => h hand.1⟩
  · exact if_neg fun hand => absurd hand.2 (Nat.not_le.mpr ho)
  · exact ⟨if_pos hc, if_neg hc, if_neg hc⟩

/-! ### The bytes `COMPRESS` writes around the block (R262, R264) -/

theorem BW.appendBytes_eq (bw : BW) (bs : List Byte) : bw.appendBytes bs = { bw with buf := bw.buf ++ bs } := by
  rw [← BW.buf_appendBytes, ← BW.cnt_appendBytes bw bs, ← BW.acc_appendBytes bw bs]

/-- Settles O59: the two operations append constant bytes and the footer's bytes. -/
theorem headerAndFooterWrites : Obligations.HeaderAndFooterWrites := by
  refine fun s hc => ⟨?_, fun d hd => ?_⟩
  · rw [exec_gzWritehdr hc, BW.appendBytes_eq]
    rfl
  · rw [exec_gzWriteftr hc hd, BW.appendBytes_eq, gzFooter, State.length_input hd, List.append_assoc]

end Sys2Proof.Machine
end

section
/-! The elements of the DEFLATE stream: what each consumes, what it does then, and how it fails
(spec/45_deflate_fixed_decoder.md R231 to R245). -/

namespace Sys2Proof.Machine

/-! ### Consuming a known number of bits -/

/-- What an operation answers from `d` when it consumes `n` bits and changes nothing else, or fails where fewer are left
(R147). -/
def Takes (d : Inflater) (n : Nat) (r : Res Inflater Unit) : Prop :=
  (n ≤ d.br.avail → ∃ h, r = .ok () { d with br := d.br.past n h }) ∧
    (d.br.avail < n → ∃ d', r = .raise .truncated d')

theorem Takes.bind {d : Inflater} {r : Res Inflater Unit} {g : Inflater → Res Inflater Unit} {m n : Nat} (hr : Takes d m r)
    (hg : ∀ d', Takes d' n (g d')) : Takes d (m + n) (r.bind fun _ d => g d) := by
  refine ⟨fun ha => ?_, fun ha => ?_⟩
  · obtain ⟨h, rfl⟩ := hr.1 (by omega)
    obtain ⟨h', hr'⟩ := (hg { d with br := d.br.past m h }).1 (by rw [BR.avail_past]; omega)
    exact ⟨h', by rw [Res.bind_ok, hr', BR.past_past]⟩
  · rcases Nat.lt_or_ge d.br.avail m with hm | hm
    · obtain ⟨d', rfl⟩ := hr.2 hm
      exact ⟨d', rfl⟩
    · obtain ⟨h, rfl⟩ := hr.1 hm
      exact (hg { d with br := d.br.past m h }).2 (by rw [BR.avail_past]; omega)

/-- A reader operation that takes `n` bits, inside the decoder. -/
theorem takes_onReader {f : BR → Res BR Unit} {d : Inflater} {m n : Nat} {br : BR}
    (hf : (n ≤ d.br.avail ∧ f d.br = .ok () ((d.br.fill m).advance n)) ∨
      (d.br.avail < n ∧ f d.br = .raise .truncated br)) : Takes d n (onReader f d) := by
  unfold onReader
  rcases hf with ⟨ha, he⟩ | ⟨ha, he⟩ <;> rw [he]
  · exact ⟨fun _ => ⟨_, by rw [BR.fill_advance_eq_past]⟩, fun hlt => absurd ha (Nat.not_le.mpr hlt)⟩
  · exact ⟨fun hle => absurd ha (Nat.not_lt.mpr hle), fun _ => ⟨_, rfl⟩⟩

theorem takes_takeBits (n : Nat) (d : Inflater) : Takes d n (takeBits n d) := takes_onReader (d.br.skipBits_cases n)

theorem takes_takeSymbol (sym : Nat) (d : Inflater) : Takes d (litlenCode sym).2 (takeSymbol sym d) :=
  takes_onReader (takeCode_cases (litlenCode sym).2 d.br)

/-- The three bits of a block header (R231): the two fields are latched as they are read. -/
theorem takeHeader_of_le_avail (btype : BitVec 2) (f : BitVec 1) {d : Inflater} (ha : 3 ≤ d.br.avail) :
    ∃ h, takeHeader btype f d = .ok () { d with br := d.br.past 3 h, bfinal := f, btype := btype } := by
  obtain ⟨h, hr⟩ := (takes_takeBits 1 d).1 (by omega)
  obtain ⟨h', hr'⟩ := (takes_takeBits 2 { d with br := d.br.past 1 h, bfinal := f }).1 (by rw [BR.avail_past]; omega)
  exact ⟨h', by rw [takeHeader, hr, Res.bind_ok, hr', Res.bind_ok, BR.past_past]⟩

theorem takeHeader_of_avail_lt (btype : BitVec 2) (f : BitVec 1) {d : Inflater} (ha : d.br.avail < 3) :
    ∃ d', takeHeader btype f d = .raise .truncated d' := by
  rcases Nat.lt_or_ge d.br.avail 1 with h1 | h1
  · obtain ⟨d', hr⟩ := (takes_takeBits 1 d).2 h1
    exact ⟨d', by rw [takeHeader, hr, Res.bind_raise]⟩
  · obtain ⟨h, hr⟩ := (takes_takeBits 1 d).1 h1
    obtain ⟨d', hr'⟩ := (takes_takeBits 2 { d with br := d.br.past 1 h, bfinal := f }).2 (by rw [BR.avail_past]; omega)
    exact ⟨d', by rw [takeHeader, hr, Res.bind_ok, hr', Res.bind_raise]⟩

/-- An element whose bits are missing fails with `E_TRUNCATED`, whatever it would do after them. -/
theorem runInflater_bind_truncated {α : Type} {r : Res Inflater Unit} (h : ∃ d, r = .raise .truncated d)
    (f : Unit → Inflater → Res Inflater α) (s : State) (k : α → State → StepResult) :
    ∃ t, runInflater (r.bind f) s k = .next t ∧ t.Failed .truncated := by
  obtain ⟨d, hr⟩ := h
  exact runInflater_failed (by rw [hr, Res.bind_raise]) s k

/-! ### Literals and the end of block (R240, R241) -/

theorem literalItem_of_le_avail (s : State) (b : Byte) (ha : (litlenCode b.toNat).2 ≤ s.br.avail) :
    ∃ h, literalItem b s = .next { s with br := s.br.past (litlenCode b.toNat).2 h, out := s.out ++ [b] } := by
  obtain ⟨h, hr⟩ := (takes_takeSymbol b.toNat s.inflater).1 ha
  exact ⟨h, by rw [literalItem, hr, Res.bind_ok, runInflater_ok]; rfl⟩

theorem eobItem_of_le_avail (s : State) (ha : 7 ≤ s.br.avail) :
    ∃ h, eobItem s = .next (endBlock { s with br := s.br.past 7 h }) := by
  obtain ⟨h, hr⟩ := (takes_takeSymbol 256 s.inflater).1 ha
  exact ⟨h, by rw [eobItem, hr, runInflater_ok]; rfl⟩

theorem endBlock_eq (s : State) : endBlock s =
    { s with
      expect := if s.dec.bfinal = 1 then .gzftr else .blkhdr
      phase := if s.dec.bfinal = 1 then .dFooter else s.phase } := by
  unfold endBlock
  split <;> rfl

theorem exec_eob (s : State) : exec .eob s = eobItem s := rfl

/-- Settles O50: the meaning of a literal's row is `literalItem` of its byte (`exec_litInstr`), which takes the code's bits. -/
theorem literalAndEndOfBlockElements : Obligations.LiteralAndEndOfBlockElements := by
  refine ⟨fun s b => ?_, fun s => ⟨fun ha => ?_, fun ha => ?_⟩⟩
  · rw [exec_litInstr]
    exact ⟨literalItem_of_le_avail s b, fun ha =>
      runInflater_bind_truncated ((takes_takeSymbol b.toNat s.inflater).2 ha) _ s _⟩
  · obtain ⟨h, hr⟩ := eobItem_of_le_avail s ha
    exact ⟨h, by rw [exec_eob, hr, endBlock_eq]⟩
  · obtain ⟨d, hr⟩ := (takes_takeSymbol 256 s.inflater).2 ha
    exact exec_eob s ▸ runInflater_failed hr s _

/-! ### Lengths and distances (R242) -/

/-- The rows of the length elements, by symbol. -/
theorem exec_lenInstr_of_lt {i e : Nat} (hi : i < 29) (he : e < 2 ^ lenExtra i) :
    exec (lenInstr i e) = lengthItem i e := by
  rcases (by omega : (8 ≤ i ∧ i ≤ 27) ∨ i < 8 ∨ i = 28) with ⟨hlo, hhi⟩ | hfew
  · interval_cases i <;> exact congrArg (lengthItem _) (Nat.mod_eq_of_lt he)
  · have hnone : lenExtra i = 0 := by
      rcases hfew with h | rfl
      · interval_cases i <;> rfl
      · rfl
    obtain rfl : e = 0 := by rw [hnone] at he; omega
    interval_cases i <;> rfl

/-- The rows of the distance elements, by symbol. -/
theorem exec_distInstr_of_lt {j x : Nat} (hj : j < 30) (hx : x < 2 ^ distExtra j) :
    exec (distInstr j x) = distanceItem j x := by
  rcases Nat.lt_or_ge j 4 with h4 | h4
  · obtain rfl : x = 0 := by
      have hnone : distExtra j = 0 := by interval_cases j <;> rfl
      rw [hnone] at hx
      omega
    interval_cases j <;> rfl
  · interval_cases j <;> exact congrArg (distanceItem _) (Nat.mod_eq_of_lt hx)

/-- Settles O51: a length takes its code and its extra bits, and is latched. -/
theorem lengthElements : Obligations.LengthElements := by
  intro s i e hi he
  have htakes := (takes_takeSymbol (257 + i) s.inflater).bind (takes_takeBits (lenExtra i))
  rw [exec_lenInstr_of_lt hi he]
  refine ⟨fun ha => ?_, fun ha => ?_⟩
  · obtain ⟨h, hr⟩ := htakes.1 ha
    exact ⟨h, by rw [lengthItem, hr, runInflater_ok]; rfl⟩
  · obtain ⟨d, hr⟩ := htakes.2 ha
    exact runInflater_failed hr s _

theorem distBase_pos {j : Nat} (hj : j < 30) : 1 ≤ distBase j := by
  revert hj
  revert j
  decide

theorem resolveMatch_of_le {d : Inflater} {dist : Nat} (hle : dist ≤ d.out.length) (len : Nat) :
    resolveMatch len dist d = .ok () { d with out := copyMatch d.out dist len } := if_neg (Nat.not_lt.mpr hle)

theorem resolveMatch_of_lt {d : Inflater} {dist : Nat} (hlt : d.out.length < dist) (len : Nat) :
    resolveMatch len dist d = .raise .badDistance d := if_pos hlt

/-- A distance element: its bits, then the check and the copy (R245, R244). -/
theorem distanceItem_eq (j x : Nat) (s : State) :
    distanceItem j x s = runInflater
      (((takeBits 5 s.inflater).bind fun _ d => takeBits (distExtra j) d).bind fun _ d =>
        resolveMatch s.dec.len (distanceOf j x) d)
      s fun _ t => .next { t with expect := .litlen } := by
  rw [Res.bind_assoc]
  rfl

/-- Settles O52: the bits of a distance, the check of R245, and the copy, which is cyclic (`copyMatch_eq_cyclic`). -/
theorem distanceElements : Obligations.DistanceElements := by
  intro s j x hj hx
  have htakes := (takes_takeBits 5 s.inflater).bind (takes_takeBits (distExtra j))
  have hpos := distBase_pos hj
  rw [exec_distInstr_of_lt hj hx, distanceItem_eq]
  refine ⟨fun ha hle => ?_, fun ha hlt => ?_, fun ha => runInflater_bind_truncated (htakes.2 ha) _ s _⟩
  · obtain ⟨h, hr⟩ := htakes.1 ha
    have hcopy := copyMatch_eq_cyclic (show 1 ≤ distBase j + x by omega) hle s.dec.len
    exact ⟨h, by rw [hr, Res.bind_ok, resolveMatch_of_le hle, runInflater_ok, ← hcopy]; rfl⟩
  · obtain ⟨h, hr⟩ := htakes.1 ha
    exact runInflater_failed (by rw [hr, Res.bind_ok, resolveMatch_of_lt hlt]) s _

/-! ### Reserved symbols and block headers (R243, R231, R236) -/

/-- An element that takes `n` bits and then raises. -/
theorem runInflater_takes_raise {s : State} {r : Res Inflater Unit} {n : Nat} (hr : Takes s.inflater n r) (e : ErrKind)
    (k : Unit → State → StepResult) :
    (n ≤ s.br.avail → ∃ h, runInflater (r.bind fun _ d => (.raise e d : Res Inflater Unit)) s k =
        .next (raiseError e { s with br := s.br.past n h })) ∧
      (s.br.avail < n → ∃ t, runInflater (r.bind fun _ d => (.raise e d : Res Inflater Unit)) s k = .next t ∧
        t.Failed .truncated) := by
  refine ⟨fun ha => ?_, fun ha => runInflater_bind_truncated (hr.2 ha) _ s k⟩
  obtain ⟨h, rfl⟩ := hr.1 ha
  exact ⟨h, rfl⟩

/-- Settles O53: a reserved symbol takes its code and raises. -/
theorem reservedSymbols : Obligations.ReservedSymbols := by
  intro s
  obtain ⟨h286, h286'⟩ := runInflater_takes_raise (takes_takeSymbol 286 s.inflater) .badSymbol fun _ t => .next t
  obtain ⟨h287, h287'⟩ := runInflater_takes_raise (takes_takeSymbol 287 s.inflater) .badSymbol fun _ t => .next t
  obtain ⟨hdist, hdist'⟩ := runInflater_takes_raise (takes_takeBits 5 s.inflater) .badSymbol fun _ t => .next t
  exact ⟨fun ha => ⟨h286 ha, h287 ha⟩, fun ha => ⟨h286' ha, h287' ha⟩, fun ha => ⟨hdist ha, hdist ha⟩,
    fun ha => ⟨hdist' ha, hdist' ha⟩⟩

theorem blockItem_of_le_avail (btype : BitVec 2) (f : BitVec 1) (body : Expect) {s : State} (ha : 3 ≤ s.br.avail) :
    ∃ h, blockItem btype f body s = .next
      { s with br := s.br.past 3 h, dec := { s.dec with bfinal := f, btype := btype }, expect := body } := by
  obtain ⟨h, hr⟩ := takeHeader_of_le_avail btype f (d := s.inflater) ha
  exact ⟨h, by rw [blockItem, hr, runInflater_ok]; rfl⟩

theorem badBlockItem_of_le_avail (btype : BitVec 2) (f : BitVec 1) {s : State} (ha : 3 ≤ s.br.avail) :
    ∃ h, badBlockItem btype f s = .next (raiseError .badBlockType
      { s with br := s.br.past 3 h, dec := { s.dec with bfinal := f, btype := btype } }) := by
  obtain ⟨h, hr⟩ := takeHeader_of_le_avail btype f (d := s.inflater) ha
  exact ⟨h, by rw [badBlockItem, hr, Res.bind_ok, runInflater_raise]; rfl⟩

theorem blockItem_of_avail_lt (btype : BitVec 2) (f : BitVec 1) (body : Expect) {s : State} (ha : s.br.avail < 3) :
    ∃ t, blockItem btype f body s = .next t ∧ t.Failed .truncated := by
  obtain ⟨d, hr⟩ := takeHeader_of_avail_lt btype f (d := s.inflater) ha
  exact runInflater_failed hr s _

theorem badBlockItem_of_avail_lt (btype : BitVec 2) (f : BitVec 1) {s : State} (ha : s.br.avail < 3) :
    ∃ t, badBlockItem btype f s = .next t ∧ t.Failed .truncated :=
  runInflater_bind_truncated (takeHeader_of_avail_lt btype f (d := s.inflater) ha) _ s _

/-- Settles O54: the four headers take the same three bits. -/
theorem blockHeaderElements : Obligations.BlockHeaderElements := by
  refine fun s f => ⟨fun ha => ⟨blockItem_of_le_avail 0 f .stored ha, blockItem_of_le_avail 1 f .litlen ha,
    badBlockItem_of_le_avail 2 f ha, badBlockItem_of_le_avail 3 f ha⟩, fun ha i hi => ?_⟩
  simp only [List.mem_cons, List.not_mem_nil, or_false] at hi
  rcases hi with rfl | rfl | rfl | rfl
  · exact blockItem_of_avail_lt 0 f .stored ha
  · exact blockItem_of_avail_lt 1 f .litlen ha
  · exact badBlockItem_of_avail_lt 2 f ha
  · exact badBlockItem_of_avail_lt 3 f ha

/-! ### The stored body (R237, R238) -/

theorem lenNlenOk_iff (len nlen : BitVec 16) : lenNlenOk len nlen = true ↔ nlen = ~~~len := by
  have hones : 0xFFFF#16 = BitVec.allOnes 16 := by decide
  rw [lenNlenOk, beq_iff_eq, hones, BitVec.xor_allOnes]
  exact eq_comm

/-- A stored body: 32 bits from the byte boundary, then the check and the copy. -/
theorem storedItem_eq (len nlen : BitVec 16) (s : State) :
    storedItem len nlen s = runInflater
      (((takeBits 16 ⟨s.br.align, s.out, s.dec.bfinal, s.dec.btype⟩).bind fun _ d => takeBits 16 d).bind fun _ d =>
        if lenNlenOk len nlen then storedCopy d len.toNat else .raise .lenNlen d)
      s fun _ t => .next (endBlock t) := by
  rw [Res.bind_assoc]
  rfl

theorem exec_storedBody (len nlen : BitVec 16) (s : State) : exec (.storedBody len nlen) s = storedItem len nlen s := rfl

/-- Settles O55: the two lengths are taken from the byte boundary, and the copy after them is that of `DEC.STORED`. -/
theorem storedBodyElement : Obligations.StoredBodyElement := by
  intro s before len nlen hlt hle
  have hpos : s.br.align.bitpos = 8 * before.length := BR.bitpos_align_of_boundary hlt hle
  have htakes := (takes_takeBits 16 ⟨s.br.align, s.out, s.dec.bfinal, s.dec.btype⟩).bind (takes_takeBits 16)
  simp only [exec_storedBody, storedItem_eq]
  refine ⟨fun data rest hsrc => ?_, fun hshort => ?_⟩
  · have hat : s.br.align.AtBytes (leBytes 2 len.toNat ++ leBytes 2 nlen.toNat ++ (data ++ rest)) :=
      ⟨before, by simpa only [BR.src_align, List.append_assoc] using hsrc, hpos⟩
    have hlen : (leBytes 2 len.toNat ++ leBytes 2 nlen.toNat).length = 4 := by
      rw [List.length_append, length_leBytes, length_leBytes]
    obtain ⟨h, hr⟩ := htakes.1 (by rw [hat.avail, List.length_append, hlen]; omega)
    have hdata := hat.past h
    rw [hlen] at hdata
    refine ⟨fun hn hd => ?_, fun hn => ?_, fun hn hd hrest => ?_⟩
    · obtain ⟨h', hcopy⟩ := storedCopy_of_data (d := ⟨s.br.align.past 32 h, s.out, s.dec.bfinal, s.dec.btype⟩) hdata
      refine ⟨h', ?_⟩
      rw [hr, Res.bind_ok, if_pos ((lenNlenOk_iff len nlen).mpr hn), ← hd, hcopy, runInflater_ok, endBlock_eq]
      have hend : (s.br.align.past 32 h).past (8 * data.length) h' =
          ⟨s.br.src, 8 * (before.length + 4 + data.length), h'⟩ := by
        rw [BR.past_past, BR.past, hpos, BR.src_align]
        congr 1
        omega
      rw [hend]
      rfl
    · exact runInflater_failed (by rw [hr, Res.bind_ok, if_neg (mt (lenNlenOk_iff len nlen).mp hn)]) s _
    · rw [hrest, List.append_nil] at hdata
      obtain ⟨d, hcopy⟩ := storedCopy_of_length_lt (d := ⟨s.br.align.past 32 h, s.out, s.dec.bfinal, s.dec.btype⟩) hdata hd
      exact runInflater_failed (by rw [hr, Res.bind_ok, if_pos ((lenNlenOk_iff len nlen).mpr hn), hcopy]) s _
  · refine runInflater_bind_truncated (htakes.2 ?_) _ s _
    simp only [BR.avail, hpos, BR.src_align]
    omega

end Sys2Proof.Machine
end

section
/-! The gzip container: the header and its optional fields, the footer, and the size of what `COMPRESS` writes
(spec/46_gzip_framer.md; spec/44_deflate_fixed_encoder.md R215). -/

namespace Sys2Proof.Machine

/-! ### The fixed header (R268, R269) -/

/-- The low bytes of a little-endian integer are its first bytes. -/
theorem leNat_append (as bs : List Byte) : leNat (as ++ bs) = leNat as + leNat bs * 2 ^ (8 * as.length) := by
  induction as with
  | nil => simp [leNat]
  | cons a as ih =>
    rw [List.cons_append, leNat, ih, leNat, List.length_cons, Nat.mul_succ, Nat.pow_add]
    ring

/-- The magic and the method are the first three bytes of the header's word. -/
theorem leNat_take_ten_mod {d : List Byte} (hd : 3 ≤ d.length) : leNat (d.take 10) % 2 ^ 24 = leNat (d.take 3) := by
  have hlen : (d.take 3).length = 3 := List.length_take_of_le hd
  have hlt := leNat_lt (d.take 3)
  have hsplit : d.take 10 = d.take 3 ++ (d.drop 3).take 7 := (List.take_add (i := 3) (j := 7)).symm ▸ rfl
  rw [hlen] at hlt
  rw [hsplit, leNat_append, hlen, Nat.add_mul_mod_self_right, Nat.mod_eq_of_lt hlt]

theorem decode_gzhdr_of_bad_magic {d : List Byte} (hd : 3 ≤ d.length) (hm : d.take 3 ≠ [0x1F, 0x8B, 0x08]) :
    decode .gzhdr (leNat (d.take 10)) = .error .badMagic := by
  refine if_neg ?_
  rw [leNat_take_ten_mod hd, leNat_take_three_eq_magic hd]
  exact hm

theorem parseLength_of_le {n : Nat} (hn : 18 ≤ n) (gz : GZ) : parseLength n gz = .ok () { gz with endPos := n - 8 } :=
  if_neg (Nat.not_lt.mpr hn)

theorem exec_gzhdr_of_short {s : State} (hn : s.n < 18) (flg : Byte) (mtime : BitVec 32) (xfl os : Byte) :
    exec (.gzhdr flg mtime xfl os) s = .next (raiseError .tooShort s) := by
  have hlen : parseLength s.n s.gz = .raise .tooShort s.gz := if_pos hn
  show execGzhdr flg mtime xfl os s = _
  rw [execGzhdr, hlen, Res.bind_raise, runFramer_raise]

/-- Settles O56: the element checks the length alone; a step looks at the magic before there is an element. -/
theorem headerElement : Obligations.HeaderElement := by
  refine fun s => ⟨fun flg mtime xfl os => ⟨fun hn => exec_gzhdr hn flg mtime xfl os, fun hn =>
    exec_gzhdr_of_short hn flg mtime xfl os⟩, fun hin hu hb he => ⟨fun hn => ?_, fun d hd hn hm => ?_⟩⟩
  · simp only [step_element hin hu hb, fetchElement, he, if_pos (show s.n < Config.minContainer from hn), runFetched]
  · have h3 : 3 ≤ d.length := by rw [State.length_input hd]; omega
    simp only [step_element hin hu hb, fetchElement, he, if_neg (show ¬s.n < Config.minContainer from Nat.not_lt.mpr hn),
      fetchInput_eq hd, fetchWord, decode_gzhdr_of_bad_magic h3 hm, runFetched, rejectWord]

/-! ### The optional fields (R270) -/

theorem eq_none_of_forall_ne {α : Type} {o : Option α} (h : ∀ a, o ≠ some a) : o = none :=
  Option.eq_none_iff_forall_ne_some.mpr h

theorem skipText_eq_none {d : List Byte} {pos endPos : Nat} (h : ∀ j, pos ≤ j → j < endPos → byteAt d j ≠ 0) :
    skipText d pos endPos = none := by
  refine eq_none_of_forall_ne fun past hp => ?_
  obtain ⟨⟨k, rfl, hk, hz, -⟩, hle⟩ := skipText_eq_some.mp hp
  exact h k hk hle hz

section Fields

variable {s : State} {d : List Byte} (hd : s.input = some d)
include hd

theorem exec_gzoptFextra : exec .gzoptFextra s = fieldItem 0x04 (skipFextra d s.gz.pos s.gz.endPos) s := withInput_eq hd _

theorem exec_gzoptFname : exec .gzoptFname s = fieldItem 0x08 (skipText d s.gz.pos s.gz.endPos) s := withInput_eq hd _

theorem exec_gzoptFcomment : exec .gzoptFcomment s = fieldItem 0x10 (skipText d s.gz.pos s.gz.endPos) s :=
  withInput_eq hd _

end Fields

theorem exec_gzoptFhcrc (s : State) : exec .gzoptFhcrc s = fieldItem 0x02 (skipFhcrc s.gz.pos s.gz.endPos) s := rfl

/-- Settles O57: each field's rule says where it ends (`skipFextra_eq_some`, `skipText_eq_some`), and an element moves there. -/
theorem optionalFieldElements : Obligations.OptionalFieldElements := by
  refine fun s d hd => ⟨fun x hx => ⟨fun hle _ => ?_, fun hlt _ => ?_⟩, fun k hk hlt hz hall => ?_, fun hall => ?_,
    fun hle => ?_, fun hlt => ?_⟩
  · have hskip := skipFextra_eq_some.mpr ⟨show fextraEnds d s.gz.pos (s.gz.pos + 2 + x) from hx ▸ rfl, hle⟩
    rw [exec_gzoptFextra hd, hskip, fieldItem]
  · have hskip : skipFextra d s.gz.pos s.gz.endPos = none := eq_none_of_forall_ne fun past hp => by
      obtain ⟨hends, hle⟩ := skipFextra_eq_some.mp hp
      rw [fextraEnds, ← hx] at hends
      omega
    rw [exec_gzoptFextra hd, hskip, fieldItem]
  · have hskip := skipText_eq_some.mpr ⟨show textEnds d s.gz.pos (k + 1) from ⟨k, rfl, hk, hz, hall⟩, hlt⟩
    rw [exec_gzoptFname hd, exec_gzoptFcomment hd, hskip]
    exact ⟨rfl, rfl⟩
  · rw [exec_gzoptFname hd, exec_gzoptFcomment hd, skipText_eq_none hall]
    exact ⟨rfl, rfl⟩
  · rw [exec_gzoptFhcrc, skipFhcrc, if_neg (Nat.not_lt.mpr hle), fieldItem]
  · rw [exec_gzoptFhcrc, skipFhcrc, if_pos hlt, fieldItem]

/-! ### `GZ.PARSEHDR` (R268 to R270) -/

theorem exec_gzParsehdr_of_short {s : State} (hn : s.n < 18) : exec .gzParsehdr s = .next (raiseError .tooShort s) :=
  if_pos hn

theorem exec_gzParsehdr {s : State} {d : List Byte} (hd : s.input = some d) (hn : 18 ≤ s.n) :
    exec .gzParsehdr s = runFramer (parseHeader d s.gz) s fun _ t => .next t :=
  (if_neg (Nat.not_lt.mpr hn)).trans (withInput_eq hd _)

theorem parseHeader_of_bad_magic {d : List Byte} (hn : 18 ≤ d.length) (hm : d.take 3 ≠ [0x1F, 0x8B, 0x08]) (gz : GZ) :
    parseHeader d gz = .raise .badHeader { gz with endPos := d.length - 8 } := by
  rw [parseHeader, parseLength_of_le hn, Res.bind_ok, parseMagic,
    if_neg (mt (leNat_take_three_eq_magic (by omega)).mp hm), Res.bind_raise]

/-- After the magic the fields are skipped (R270). -/
theorem parseHeader_of_magic {d : List Byte} (hn : 18 ≤ d.length) (hm : d.take 3 = [0x1F, 0x8B, 0x08]) (gz : GZ) :
    parseHeader d gz =
      match skipFields d (byteAt d 3) (d.length - 8) with
      | some pos => .ok () { gz with flg := byteAt d 3, pos := pos, endPos := d.length - 8, opt := 0 }
      | none => .raise .badFieldLen
          { gz with flg := byteAt d 3, pos := 10, endPos := d.length - 8, opt := byteAt d 3 } := by
  rw [parseHeader, parseLength_of_le hn, Res.bind_ok, parseMagic,
    if_pos ((leNat_take_three_eq_magic (by omega)).mpr hm), Res.bind_ok]
  simp only [acceptHeader, byteAt] <;> cases skipFields d (d.getD 3 0) (d.length - 8) <;> rfl

/-- With none of the four bits set there is no field to skip. -/
theorem headerEnds_of_none (d : List Byte) {flg : Byte} (h : flg &&& 0x1E = 0) : headerEnds d flg 10 := by
  have hbits : ∀ flg : Byte, flg &&& 0x1E = 0 →
      flg.getLsbD 2 = false ∧ flg.getLsbD 3 = false ∧ flg.getLsbD 4 = false ∧ flg.getLsbD 1 = false := by decide +kernel
  have absent {flag : Bool} {ends : Nat → Nat → Prop} (hf : flag = false) : fieldEnds flag ends 10 10 := by
    subst hf
    simp [fieldEnds]
  obtain ⟨h2, h3, h4, h1⟩ := hbits flg h
  exact ⟨10, 10, 10, absent h2, absent h3, absent h4, absent h1⟩

/-- Settles O60: the three checks in turn, the end of the fields being `skipFields_eq_some`. -/
theorem parseHeaderStatement : Obligations.ParseHeader := by
  refine fun s => ⟨exec_gzParsehdr_of_short, fun d hd hn => ⟨fun hm => ?_, fun hm => ⟨fun pos hpos hends => ?_,
    fun hnone => ?_, headerEnds_of_none d⟩⟩⟩ <;> have hlen := State.length_input hd
  · rw [exec_gzParsehdr hd hn, parseHeader_of_bad_magic (hlen ▸ hn) hm, runFramer_raise, hlen]
  · have hskip := (skipFields_eq_some (show 10 ≤ d.length - 8 by omega)).mpr ⟨hends, hlen ▸ hpos⟩
    rw [exec_gzParsehdr hd hn, parseHeader_of_magic (hlen ▸ hn) hm, hskip, runFramer_ok, hlen]
  · have hskip : skipFields d (byteAt d 3) (d.length - 8) = none := eq_none_of_forall_ne fun pos hp => by
      obtain ⟨hends, hle⟩ := (skipFields_eq_some (by omega)).mp hp
      exact hnone pos (hlen ▸ hle) hends
    rw [exec_gzParsehdr hd hn, parseHeader_of_magic (hlen ▸ hn) hm, hskip, runFramer_raise, hlen]

/-! ### The footer (R272) -/

theorem checkFooter_right {out : List Byte} {c z : Word32} (hc : crc32 out = c) (hz : BitVec.ofNat 32 out.length = z) :
    checkFooter out c z = none := by
  rw [← hc, ← hz, checkFooter_self]

/-- With both fields wrong the error is one of the two (R312). -/
theorem checkFooter_both_wrong {out : List Byte} {c z : Word32} (hc : crc32 out ≠ c) (hz : BitVec.ofNat 32 out.length ≠ z) :
    checkFooter out c z = some .crcMismatch ∨ checkFooter out c z = some .sizeMismatch := by
  rw [checkFooter, bne_iff_ne.mpr hc, bne_iff_ne.mpr hz, footerError]
  cases Config.footerOrder
  · exact .inl rfl
  · exact .inr rfl

/-- What a footer check on the state does, error by error. -/
theorem footerItem_of_some {s : State} {c z : Word32} {e : ErrKind} (h : checkFooter s.out c z = some e) (next : Expect) :
    ∃ t, footerItem c z next s = .next t ∧ t.Failed e := by
  simp only [footerItem, h]
  exact ⟨_, rfl, raiseError_failed e _⟩

/-- The four outcomes of a footer check. -/
theorem footerItem_outcomes (s : State) (c z : Word32) (next : Expect) :
    (crc32 s.out = c → BitVec.ofNat 32 s.out.length = z → footerItem c z next s = .next
        { s with crc := crcRun s.out, gz := { s.gz with crcExpect := c, sizeExpect := z }, expect := next }) ∧
      (crc32 s.out ≠ c → BitVec.ofNat 32 s.out.length = z →
        ∃ t, footerItem c z next s = .next t ∧ t.Failed .crcMismatch) ∧
      (crc32 s.out = c → BitVec.ofNat 32 s.out.length ≠ z →
        ∃ t, footerItem c z next s = .next t ∧ t.Failed .sizeMismatch) ∧
      (crc32 s.out ≠ c → BitVec.ofNat 32 s.out.length ≠ z →
        ∃ t, footerItem c z next s = .next t ∧ (t.Failed .crcMismatch ∨ t.Failed .sizeMismatch)) := by
  refine ⟨fun hc hz => ?_, fun hc hz => footerItem_of_some (checkFooter_crc_wrong hc hz) next,
    fun hc hz => footerItem_of_some (checkFooter_size_wrong hc hz) next, fun hc hz => ?_⟩
  · simp only [footerItem, checkFooter_right hc hz]
  · rcases checkFooter_both_wrong hc hz with h | h
    · obtain ⟨t, ht, hf⟩ := footerItem_of_some h next
      exact ⟨t, ht, .inl hf⟩
    · obtain ⟨t, ht, hf⟩ := footerItem_of_some h next
      exact ⟨t, ht, .inr hf⟩

theorem exec_gzftr (crc size : Word32) (s : State) : exec (.gzftr crc size) s = footerItem crc size .nothing s := rfl

theorem exec_gzCheckftr {s : State} {body : List Byte} {crc size : Word32}
    (hd : s.input = some (body ++ leBytes 4 crc.toNat ++ leBytes 4 size.toNat)) :
    exec .gzCheckftr s = footerItem crc size s.expect s := by
  have hlen := State.length_input hd
  have h8 : ¬s.n < Config.footerLen := by
    rw [← hlen, List.length_append, length_leBytes, List.length_append, length_leBytes, Config.footerLen]
    omega
  have hcrc := footerCrc_leBytes body crc size
  have hsize := footerSize_leBytes body crc size
  rw [footerCrc, ← List.append_assoc, hlen] at hcrc
  rw [footerSize, ← List.append_assoc, hlen] at hsize
  show execGzCheckftr s = _
  rw [execGzCheckftr, if_neg h8, withInput_eq hd, hcrc, hsize]

/-- Settles O58: the element and the unit operation are one check, which the four cases of the two fields decide. -/
theorem footerChecks : Obligations.FooterChecks := by
  intro s crc size
  obtain ⟨hok, hcrc, hsize, hboth⟩ := footerItem_outcomes s crc size .nothing
  refine ⟨hok, hcrc, hsize, hboth, fun body hd => ?_⟩
  rw [exec_gzCheckftr hd]
  exact footerItem_outcomes s crc size s.expect

/-! ### Sizes (R215, R265) -/

theorem litlenCode_lit_length (b : Byte) : (litlenCode b.toNat).2 = if b.toNat ≤ 143 then 8 else 9 := by
  have hb := b.isLt
  unfold litlenCode
  split_ifs <;> omega

theorem litlenCode_len_length (i : Nat) : (litlenCode (257 + i)).2 = if i ≤ 22 then 7 else 8 := by
  unfold litlenCode
  split_ifs <;> omega

/-- R215's count of a token's bits. -/
theorem length_tokenStream (t : Token) : (tokenStream t).length = t.bits := by
  cases t with
  | lit b => rw [tokenStream, length_codeBits, litlenCode_lit_length, Token.bits]
  | mtch len dist =>
    simp only [tokenStream, List.length_append, length_codeBits, length_lowBits, litlenCode_len_length, Token.bits]

theorem length_bodyStream (ts : List Token) : (bodyStream ts).length = (ts.map Token.bits).sum + 7 := by
  induction ts with
  | nil => rfl
  | cons t ts ih => rw [bodyStream_cons, List.length_append, ih, length_tokenStream, List.map_cons, List.sum_cons]; omega

/-- A block takes its bits and the padding to a byte boundary. -/
theorem length_blockBytes (ts : List Token) : (blockBytes ts).length = (blockBits ts + 7) / 8 := by
  have hall : ((blockBytes ts).flatMap byteBits).length = 8 * (blockBytes ts).length := by
    simp [List.length_flatMap, Nat.mul_comm]
  rw [flatMap_byteBits_blockBytes, List.length_append, List.length_append, padBits, List.length_replicate,
    length_bodyStream] at hall
  simp only [List.length_cons, List.length_nil] at hall
  rw [blockBits]
  omega

theorem length_gzHeader : gzHeader.length = 10 := rfl

theorem length_gzFooter (x : List Byte) : (gzFooter x).length = 8 := by
  rw [gzFooter, List.length_append, length_leBytes, length_leBytes]

theorem length_memberOf (x : List Byte) (ts : List Token) :
    (memberOf x ts).length = 10 + (blockBits ts + 7) / 8 + 8 := by
  rw [memberOf, List.length_append, List.length_append, length_gzHeader, length_gzFooter, length_blockBytes]

/-- Settles O43: the bits of the block counted token by token, and the member's three parts. -/
theorem sizeAndShapeOfTheMember : Obligations.SizeAndShapeOfTheMember := by
  refine fun x ts _ => ⟨length_blockBytes ts, length_memberOf x ts, ?_, rfl, ?_, length_memberOf [] []⟩
  · rw [length_memberOf, blockBits]
    omega
  · have hlen : (memberOf x ts).length - 8 = (gzHeader ++ blockBytes ts).length := by
      rw [memberOf, List.length_append, length_gzFooter, Nat.add_sub_cancel]
    rw [hlen, memberOf, List.drop_left, gzFooter]

/-! ### The decoder's loops (R230, R239, R361) -/

/-- What one run of a loop's body leaves to read. -/
theorem readFixedItem_leavesBelow (d : Inflater) : (readFixedItem d).LeavesBelow d.br.avail := by
  unfold readFixedItem
  have hsym : (onReader hdLitlen d).LeavesBelow d.br.avail := by
    have hpos : 0 < (litlenDec9 (d.br.peekValue 9)).2 := Nat.lt_of_lt_of_le (by decide) (litlenDec9_peek d.br).2.2.1
    exact onReader_leavesBelow (Nat.lt_add_of_pos_right hpos) (hdLitlen_cases d.br)
  refine hsym.bind fun sym x hx => ?_
  split
  · exact leavesBelow_ok hx
  · split
    · exact leavesBelow_ok hx
    · split
      · exact leavesBelow_raise _ _ _
      · refine Res.LeavesBelow.bind ?_ fun _ y hy => leavesBelow_ok hy
        unfold readMatch
        refine (readBits_leavesBelow (Nat.lt_add_right _ hx)).bind fun e y hy => ?_
        refine Res.LeavesBelow.bind (onReader_leavesBelow (Nat.lt_add_right 5 hy) (hdDist_cases y.br)) fun j z hz => ?_
        split
        · exact leavesBelow_raise _ _ _
        · exact (readBits_leavesBelow (Nat.lt_add_right _ hz)).bind fun _ _ hw => resolveMatch_leavesBelow hw _ _

/-- Enough iterations are as good as any larger number: each leaves fewer bits. -/
theorem readFixedLoop_enough {d : Inflater} {fuel fuel' : Nat} (hf : d.br.avail < fuel) (hf' : d.br.avail < fuel') :
    readFixedLoop d fuel = readFixedLoop d fuel' := by
  induction fuel generalizing d fuel' with
  | zero => exact absurd hf (Nat.not_lt_zero _)
  | succ fuel ih =>
    obtain ⟨fuel', rfl⟩ := Nat.exists_eq_add_one_of_ne_zero (Nat.ne_zero_of_lt hf')
    rw [readFixedLoop, readFixedLoop]
    cases hr : readFixedItem d with
    | raise e x => rfl
    | ok fin x =>
      have hx := readFixedItem_leavesBelow d fin x hr
      rw [Res.bind_ok, Res.bind_ok, ih (by omega) (by omega : x.br.avail < fuel')]

theorem readFixed_unroll (d : Inflater) :
    readFixed d = (readFixedItem d).bind fun done d => if done then .ok () d else readFixed d := by
  rw [readFixed, readFixedLoop]
  cases hr : readFixedItem d with
  | raise e x => rfl
  | ok fin x =>
    have hx := readFixedItem_leavesBelow d fin x hr
    rw [Res.bind_ok, Res.bind_ok, readFixed, readFixedLoop_enough hx (Nat.lt_succ_self _)]

theorem readFixed_leavesBelow {d : Inflater} {n : Nat} (h : d.br.avail < n) : (readFixed d).LeavesBelow n := by
  induction hk : d.br.avail using Nat.strong_induction_on generalizing d with
  | _ k ih =>
    rw [readFixed_unroll]
    intro b y hy
    obtain ⟨fin, x, hr, hy⟩ := Res.bind_eq_ok.mp hy
    have hx := readFixedItem_leavesBelow d fin x hr
    split at hy
    · cases hy; omega
    · exact ih _ (hk ▸ hx) (by omega) rfl b y hy

theorem readStored_leavesBelow {d : Inflater} {n : Nat} (h : d.br.avail < n) : (readStored d).LeavesBelow n := by
  have halign := d.br.avail_align_le
  unfold readStored
  refine (readBits_leavesBelow (Nat.lt_add_right 16 (halign.trans_lt h))).bind fun len x hx => ?_
  refine (readBits_leavesBelow (Nat.lt_add_right 16 hx)).bind fun nlen y hy => ?_
  split
  · exact storedCopy_leavesBelow hy _
  · exact leavesBelow_raise _ _ _

theorem readBlockHeader_leavesBelow (d : Inflater) : (readBlockHeader d).LeavesBelow d.br.avail :=
  (readBits_leavesBelow (Nat.lt_add_of_pos_right (by decide))).bind fun _ _ hx =>
    (readBits_leavesBelow (by exact Nat.lt_add_right 2 hx)).bind fun _ _ hy => leavesBelow_ok (by exact hy)

theorem readBlockBody_leavesBelow {d : Inflater} {n : Nat} (h : d.br.avail < n) : (readBlockBody d).LeavesBelow n := by
  unfold readBlockBody
  split
  · exact readStored_leavesBelow h
  · split
    · exact readFixed_leavesBelow h
    · exact leavesBelow_raise _ _ _

/-- One block, header and body, leaves fewer bits (R361). -/
theorem readBlock_leavesBelow (d : Inflater) :
    ((readBlockHeader d).bind fun _ d => readBlockBody d).LeavesBelow d.br.avail :=
  (readBlockHeader_leavesBelow d).bind fun _ _ hx => readBlockBody_leavesBelow hx

theorem inflateLoop_succ (d : Inflater) (fuel : Nat) :
    inflateLoop d (fuel + 1) = ((readBlockHeader d).bind fun _ d => readBlockBody d).bind fun _ d =>
      if d.bfinal = 1 then .ok () d else inflateLoop d fuel := by
  rw [inflateLoop, Res.bind_assoc]

theorem inflateLoop_enough {d : Inflater} {fuel fuel' : Nat} (hf : d.br.avail < fuel) (hf' : d.br.avail < fuel') :
    inflateLoop d fuel = inflateLoop d fuel' := by
  induction fuel generalizing d fuel' with
  | zero => exact absurd hf (Nat.not_lt_zero _)
  | succ fuel ih =>
    obtain ⟨fuel', rfl⟩ := Nat.exists_eq_add_one_of_ne_zero (Nat.ne_zero_of_lt hf')
    rw [inflateLoop_succ, inflateLoop_succ]
    cases hr : (readBlockHeader d).bind fun _ d => readBlockBody d with
    | raise e x => rfl
    | ok a x =>
      have hx := readBlock_leavesBelow d a x hr
      rw [Res.bind_ok, Res.bind_ok, ih (by omega) (by omega : x.br.avail < fuel')]

theorem inflate_unroll (d : Inflater) :
    inflate d = (readBlockHeader d).bind fun _ d => (readBlockBody d).bind fun _ d =>
      if d.bfinal = 1 then .ok () d else inflate d := by
  rw [inflate, inflateLoop_succ, Res.bind_assoc, ← Res.bind_assoc, ← Res.bind_assoc]
  cases hr : (readBlockHeader d).bind fun _ d => readBlockBody d with
  | raise e x => rfl
  | ok a x =>
    have hx := readBlock_leavesBelow d a x hr
    rw [Res.bind_ok, Res.bind_ok, inflate, inflateLoop_enough hx (Nat.lt_succ_self _)]

/-- Settles O48: each iteration leaves fewer bits, so any bound above the bits left is the same loop. -/
theorem decoderLoopsRunToTheirEnd : Obligations.DecoderLoopsRunToTheirEnd := ⟨inflate_unroll, readFixed_unroll⟩

end Sys2Proof.Machine
end

section
/-! The search of the tokenizer in closed form, and its loop over that form (spec/43_lz77_tokenizer.md R192 to R197).

The chains of `HEAD` and `PREV` are followed as one list: the inserted positions with the key, nearest first (`occurrences`). The
walk of R193 is then a fold over that list, which finds the longest match and the nearest candidate that has it. -/

namespace Sys2Proof.Machine

/-! ### The chains as lists of positions (R192) -/

/-- The hashable positions below `k` with this key, nearest first. -/
def occurrences (d : List Byte) (key k : Nat) : List Nat :=
  (List.range k).reverse.filter fun c => hashable d c && keyAt d c == key

theorem occurrences_succ (d : List Byte) (key k : Nat) :
    occurrences d key (k + 1) =
      if hashable d k = true ∧ keyAt d k = key then k :: occurrences d key k else occurrences d key k := by
  simp only [occurrences, List.range_succ, List.reverse_append, List.reverse_singleton, List.singleton_append,
    List.filter_cons, Bool.and_eq_true, beq_iff_eq]

theorem mem_occurrences {d : List Byte} {key k c : Nat} :
    c ∈ occurrences d key k ↔ c < k ∧ hashable d c = true ∧ keyAt d c = key := by
  simp [occurrences]

/-- Nearest first: what comes after an occurrence are the occurrences before it. -/
theorem occurrences_tail {d : List Byte} {key k c : Nat} {cs : List Nat} (h : occurrences d key k = c :: cs) :
    cs = occurrences d key c := by
  induction k with
  | zero => cases h
  | succ k ih =>
    rw [occurrences_succ] at h
    split at h
    · obtain ⟨rfl, rfl⟩ := List.cons.inj h
      rfl
    · exact ih h

theorem occurrences_pairwise (d : List Byte) (key k : Nat) : (occurrences d key k).Pairwise (· > ·) := by
  refine List.Pairwise.filter _ ?_
  rw [List.pairwise_reverse]
  exact List.pairwise_lt_range

/-- The tables hold the chains of the positions below `ins`. -/
structure TK.Chains (d : List Byte) (tk : TK) : Prop where
  prev_wf : tk.prev.wf = true
  head : ∀ key, tk.head.get key = (occurrences d key tk.ins).head?
  prev : ∀ c < tk.ins, hashable d c = true → tk.prev.get c = (occurrences d (keyAt d c) c).head?

theorem TK.start_chains (d : List Byte) (queue : List Token) : (TK.start queue).Chains d where
  prev_wf := rfl
  head _ := rfl
  prev _ hc := absurd hc (Nat.not_lt_zero _)

theorem TK.insert_of_hashable {d : List Byte} {tk : TK} (h : hashable d tk.ins = true) : tk.insert d =
    { tk with
      prev := tk.prev.assign tk.ins (tk.head.get (keyAt d tk.ins))
      head := tk.head.put (keyAt d tk.ins) tk.ins
      ins := tk.ins + 1 } := if_pos h

theorem TK.insert_of_not_hashable {d : List Byte} {tk : TK} (h : ¬hashable d tk.ins = true) :
    tk.insert d = { tk with ins := tk.ins + 1 } := if_neg h

/-- Inserting the next position links it before the chain of its key. -/
theorem TK.Chains.insert {d : List Byte} {tk : TK} (h : tk.Chains d) : (tk.insert d).Chains d := by
  by_cases hh : hashable d tk.ins = true
  · rw [TK.insert_of_hashable hh]
    refine ⟨Cells.wf_assign _ _ h.prev_wf, fun key => ?_, fun c hc hash => ?_⟩
    · simp only [Cells.get_put, occurrences_succ, hh, true_and, h.head]
      split
      · subst_vars
        simp
      · rw [if_neg fun he => ‹¬_› he.symm]
    · simp only [Cells.get_assign _ _ _ h.prev_wf]
      split
      · subst_vars
        exact h.head _
      · exact h.prev c (by simp only at hc; omega) hash
  · rw [TK.insert_of_not_hashable hh]
    refine ⟨h.prev_wf, fun key => ?_, fun c hc hash => ?_⟩
    · rw [occurrences_succ, if_neg fun hand => hh hand.1]
      exact h.head key
    · refine h.prev c (Nat.lt_of_le_of_ne (Nat.lt_succ_iff.mp hc) ?_) hash
      rintro rfl
      exact hh hash

theorem TK.Chains.insertMany {d : List Byte} {tk : TK} (h : tk.Chains d) (k : Nat) : (tk.insertMany d k).Chains d := by
  induction k generalizing tk with
  | zero => exact h
  | succ k ih => exact ih h.insert

theorem TK.Chains.insertUpto {d : List Byte} {tk : TK} (h : tk.Chains d) (q : Nat) : (tk.insertUpto d q).Chains d :=
  h.insertMany _

/-- Passing over the entries from `q` on leaves the chain of the positions below `q` (R353). -/
theorem TK.Chains.firstBelow {d : List Byte} {tk : TK} (h : tk.Chains d) (key : Nat) {q m fuel : Nat} (hm : m ≤ tk.ins)
    (hq : q ≤ m) (hf : m ≤ q + fuel) :
    firstBelow tk.prev q fuel (occurrences d key m).head? = (occurrences d key q).head? := by
  induction m, hq using Nat.le_induction generalizing fuel with
  | base =>
    cases ho : occurrences d key q with
    | nil => cases fuel <;> rfl
    | cons c cs =>
      have hc : c < q := (mem_occurrences.mp (ho ▸ List.mem_cons_self)).1
      exact firstBelow_of_lt _ _ hc
  | succ m hq ih =>
    rw [occurrences_succ]
    split
    · rename_i hand
      obtain ⟨hash, rfl⟩ := hand
      obtain ⟨fuel, rfl⟩ := Nat.exists_eq_add_one_of_ne_zero (show fuel ≠ 0 by omega)
      rw [List.head?_cons, Machine.firstBelow, if_neg (by omega), h.prev m (by omega) hash]
      exact ih (by omega) (by omega)
    · exact ih (by omega) (by omega)

/-! ### The walk as a fold over candidates (R193) -/

/-- R193's walk over a list of candidates. -/
def walkList (d : List Byte) (q maxLen : Nat) : List Nat → Nat × Nat → Nat × Nat
  | [], best => best
  | c :: cs, best =>
    if Config.windowSize < q - c then best
    else if byteAt d (c + best.1) = byteAt d (q + best.1) then
      let l := matchLen d c q 0 maxLen
      let next := if best.1 < l then (l, q - c) else best
      if l = maxLen then next else walkList d q maxLen cs next
    else walkList d q maxLen cs best

/-- Following the chain is walking the list of its positions. -/
theorem TK.Chains.walkChain {d : List Byte} {tk : TK} (h : tk.Chains d) {key q maxLen m : Nat} (hm : m ≤ tk.ins)
    (walked : Nat) (best : Nat × Nat) :
    walkChain d tk.prev q maxLen walked (occurrences d key m).head? best =
      walkList d q maxLen ((occurrences d key m).take walked) best := by
  induction walked generalizing m best with
  | zero => rfl
  | succ walked ih =>
    cases ho : occurrences d key m with
    | nil => rfl
    | cons c cs =>
      obtain ⟨hc, hash, hkey⟩ := mem_occurrences.mp (ho ▸ List.mem_cons_self : c ∈ occurrences d key m)
      have hprev : tk.prev.get c = (occurrences d key c).head? := hkey ▸ h.prev c (by omega) hash
      have hrest := fun best => ih (m := c) (by omega) best
      rw [← hprev, ← occurrences_tail ho] at hrest
      simp only [List.head?_cons, List.take_succ_cons, Machine.walkChain, walkList, hrest]

theorem start_le_matchLen (d : List Byte) (c q l fuel : Nat) : l ≤ matchLen d c q l fuel := by
  induction fuel generalizing l with
  | zero => exact Nat.le_refl l
  | succ fuel ih =>
    rw [matchLen]
    split
    · exact Nat.le_of_succ_le (ih (l + 1))
    · exact Nat.le_refl l

/-- The inner loop of R193 does not stop before the bytes differ. -/
theorem le_matchLen {d : List Byte} {c q l k fuel : Nat} (h : agree d c q l) (hk : k ≤ l) (hl : l ≤ k + fuel) :
    l ≤ matchLen d c q k fuel := by
  induction fuel generalizing k with
  | zero => exact hl
  | succ fuel ih =>
    rcases Nat.lt_or_eq_of_le hk with hlt | rfl
    · rw [matchLen, if_pos (h k hlt)]
      exact ih hlt (by omega)
    · exact start_le_matchLen d c q k _

/-- How long the match at a candidate is (R193). -/
def agreement (d : List Byte) (q maxLen c : Nat) : Nat := matchLen d c q 0 maxLen

theorem agreement_le (d : List Byte) (q maxLen c : Nat) : agreement d q maxLen c ≤ maxLen :=
  (matchLen_agree maxLen fun _ hi => absurd hi (Nat.not_lt_zero _)).1.trans_eq (Nat.zero_add _)

theorem agree_agreement (d : List Byte) (q maxLen c : Nat) : agree d c q (agreement d q maxLen c) :=
  (matchLen_agree maxLen fun _ hi => absurd hi (Nat.not_lt_zero _)).2

theorem le_agreement {d : List Byte} {q maxLen c l : Nat} (h : agree d c q l) (hl : l ≤ maxLen) :
    l ≤ agreement d q maxLen c :=
  le_matchLen h (Nat.zero_le l) (hl.trans_eq (Nat.zero_add _).symm)

/-- `r` is the best of `best` and the candidates `cs`: the longest match, and of those the nearest. -/
structure BestOf (d : List Byte) (q maxLen : Nat) (cs : List Nat) (best r : Nat × Nat) : Prop where
  found : r = best ∨ ∃ c ∈ cs, q - c ≤ Config.windowSize ∧ r = (agreement d q maxLen c, q - c) ∧
    best.1 < agreement d q maxLen c ∧ ∀ c' ∈ cs, agreement d q maxLen c ≤ agreement d q maxLen c' → c' ≤ c
  longest : ∀ c ∈ cs, q - c ≤ Config.windowSize → agreement d q maxLen c ≤ r.1

section Walk

variable {d : List Byte} {q maxLen c : Nat} {cs : List Nat} {best r : Nat × Nat}

theorem BestOf.refl (hw : ∀ c ∈ cs, q - c ≤ Config.windowSize → agreement d q maxLen c ≤ best.1) :
    BestOf d q maxLen cs best best := ⟨.inl rfl, hw⟩

theorem BestOf.le (h : BestOf d q maxLen cs best r) : best.1 ≤ r.1 := by
  rcases h.found with rfl | ⟨c, -, -, rfl, hlt, -⟩
  · exact Nat.le_refl _
  · exact hlt.le

/-- A candidate that is no longer than the best so far changes nothing. -/
theorem BestOf.skip (h : BestOf d q maxLen cs best r) (hc : agreement d q maxLen c ≤ best.1) :
    BestOf d q maxLen (c :: cs) best r := by
  refine ⟨?_, List.forall_mem_cons.mpr ⟨fun _ => hc.trans h.le, h.longest⟩⟩
  rcases h.found with rfl | ⟨c', hmem, hw, hr, hlt, hnear⟩
  · exact .inl rfl
  · refine .inr ⟨c', List.mem_cons_of_mem _ hmem, hw, hr, hlt, List.forall_mem_cons.mpr ⟨fun hle => ?_, hnear⟩⟩
    exact absurd (hle.trans hc) (Nat.not_le.mpr hlt)

/-- A longer candidate is the best so far, and nearer than those after it. -/
theorem BestOf.improve (h : BestOf d q maxLen cs (agreement d q maxLen c, q - c) r)
    (hc : best.1 < agreement d q maxLen c) (hw : q - c ≤ Config.windowSize) (hs : ∀ c' ∈ cs, c' < c) :
    BestOf d q maxLen (c :: cs) best r := by
  refine ⟨.inr ?_, List.forall_mem_cons.mpr ⟨fun _ => h.le, h.longest⟩⟩
  rcases h.found with rfl | ⟨c', hmem, hw', hr, hlt, hnear⟩
  · exact ⟨c, List.mem_cons_self, hw, rfl, hc,
      List.forall_mem_cons.mpr ⟨fun _ => Nat.le_refl c, fun c' hc' _ => (hs c' hc').le⟩⟩
  · refine ⟨c', List.mem_cons_of_mem _ hmem, hw', hr, hc.trans hlt, List.forall_mem_cons.mpr ⟨fun hle => ?_, hnear⟩⟩
    exact absurd hle (Nat.not_le.mpr hlt)

/-- A candidate that differs at the byte after the best length is no longer than it: the test of R193 skips no match. -/
theorem agreement_le_of_byte_ne {l : Nat} (h : ¬byteAt d (c + l) = byteAt d (q + l)) : agreement d q maxLen c ≤ l :=
  Nat.le_of_not_lt fun hlt => h (agree_agreement d q maxLen c l hlt)

/-- R193's walk over candidates, nearest first, finds the best. -/
theorem walkList_bestOf (hs : cs.Pairwise (· > ·)) : BestOf d q maxLen cs best (walkList d q maxLen cs best) := by
  induction cs generalizing best with
  | nil => exact .refl nofun
  | cons c cs ih =>
    obtain ⟨hfar, hs⟩ := List.pairwise_cons.mp hs
    rw [walkList]
    split
    · rename_i hw
      refine .refl (List.forall_mem_cons.mpr ⟨fun h => absurd h (Nat.not_le.mpr hw), fun c' hc' h => ?_⟩)
      have := hfar c' hc'
      omega
    · rename_i hw
      split
      · by_cases hlt : best.1 < agreement d q maxLen c
        · simp only [← agreement.eq_def, if_pos hlt]
          split
          · rename_i hmax
            exact (BestOf.refl fun c' _ _ => (agreement_le d q maxLen c').trans_eq hmax.symm).improve hlt
              (Nat.le_of_not_lt hw) hfar
          · exact (ih hs).improve hlt (Nat.le_of_not_lt hw) hfar
        · simp only [← agreement.eq_def, if_neg hlt]
          split
          · rename_i hmax
            exact (BestOf.refl fun c' _ _ => (agreement_le d q maxLen c').trans
              (hmax ▸ Nat.le_of_not_lt hlt)).skip (Nat.le_of_not_lt hlt)
          · exact (ih hs).skip (Nat.le_of_not_lt hlt)
      · exact (ih hs).skip (agreement_le_of_byte_ne ‹_›)

end Walk

/-! ### `TK.FINDMATCH` (R193, R194) -/

/-- What a search answers, as a function of the input and the position alone. -/
def pureSearch (d : List Byte) (q : Nat) : Option (Nat × Nat) :=
  if hashable d q then
    let best := walkList d q (longest d q) ((occurrences d (keyAt d q) q).take Config.maxChain) (Config.minMatch - 1, 0)
    if Config.minMatch ≤ best.1 then some best else none
  else none

/-- The search does not depend on which positions are in the chains (R194). -/
theorem TK.Chains.findMatch {d : List Byte} {tk : TK} (h : tk.Chains d) (q : Nat) :
    (findMatch d tk q).1 = pureSearch d q := by
  have h' := h.insertUpto q
  have hq : q ≤ (tk.insertUpto d q).ins := (TK.ins_insertUpto d q tk).symm ▸ Nat.le_max_right _ _
  have hstart := h'.firstBelow (keyAt d q) (Nat.le_refl _) hq (by omega : _ ≤ q + ((tk.insertUpto d q).ins - q))
  have hwalk := h'.walkChain (key := keyAt d q) (q := q) (maxLen := longest d q) hq Config.maxChain (Config.minMatch - 1, 0)
  rw [longest] at hwalk
  simp only [Machine.findMatch, searchMatch, pureSearch, h'.head, hstart, hwalk, longest] <;> rfl

theorem bestMatch_eq_pureSearch (d : List Byte) (q : Nat) : bestMatch d q = pureSearch d q :=
  (TK.start_chains d []).findMatch q

/-- Filtering and cutting commute where what the filter keeps comes first. -/
theorem take_filter_of_pairwise {α : Type} {p : α → Bool} {l : List α}
    (h : l.Pairwise fun a b => p b = true → p a = true) (k : Nat) : (l.filter p).take k = (l.take k).filter p := by
  induction l generalizing k with
  | nil => simp
  | cons a l ih =>
    obtain ⟨ha, hl⟩ := List.pairwise_cons.mp h
    cases k with
    | zero => rfl
    | succ k =>
      by_cases hp : p a = true
      · rw [List.filter_cons_of_pos hp, List.take_succ_cons, List.take_succ_cons, List.filter_cons_of_pos hp, ih hl]
      · have hnone : ∀ b ∈ l, ¬p b = true := fun b hb hpb => hp (ha b hb hpb)
        rw [List.filter_cons_of_neg hp, List.take_succ_cons, List.filter_cons_of_neg hp,
          List.filter_eq_nil_iff.mpr hnone,
          List.filter_eq_nil_iff.mpr fun b hb => hnone b (List.mem_of_mem_take hb), List.take_nil]

/-- Below a hashable position every position is hashable. -/
theorem hashable_of_lt {d : List Byte} {c q : Nat} (h : hashable d q = true) (hc : c < q) : hashable d c = true := by
  have h3 : q + 3 ≤ d.length := of_decide_eq_true h
  exact decide_eq_true (show c + 3 ≤ d.length by omega)

/-- R194's candidates are the walk's candidates that lie within the window. -/
theorem candidates_eq {d : List Byte} {q : Nat} (h : hashable d q = true) : candidates d q =
    ((occurrences d (keyAt d q) q).take Config.maxChain).filter fun c => q - c ≤ Config.windowSize := by
  rw [← take_filter_of_pairwise, candidates, occurrences, List.filter_filter]
  · refine congrArg _ (List.filter_congr fun c hc => ?_)
    have hlt : c < q := by simpa using hc
    rw [hashable_of_lt h hlt, Bool.true_and]
  · refine (occurrences_pairwise d (keyAt d q) q).imp fun hab hb => ?_
    have := of_decide_eq_true hb
    exact decide_eq_true (by omega)

/-- Positions with the same key agree on their first three bytes (R191). -/
theorem agree_of_keyAt_eq {d : List Byte} {c q : Nat} (h : keyAt d c = keyAt d q) : agree d c q 3 := by
  simp only [keyAt] at h
  have hb (k : Nat) := (byteAt d k).isLt
  have h0 := hb c
  have h1 := hb (c + 1)
  have h2 := hb (c + 2)
  have h0' := hb q
  have h1' := hb (q + 1)
  have h2' := hb (q + 2)
  intro i hi
  apply BitVec.eq_of_toNat_eq
  interval_cases i
  · simp only [Nat.add_zero]; omega
  · omega
  · omega

theorem pureSearch_of_not_hashable {d : List Byte} {q : Nat} (h : d.length < q + 3) : pureSearch d q = none :=
  if_neg fun hh => absurd (of_decide_eq_true hh) (Nat.not_le.mpr h)

/-- The walk finds nothing, or the longest agreement and the nearest candidate that has it. -/
theorem pureSearch_bestOf {d : List Byte} {q : Nat} (h : hashable d q = true) :
    ∃ r, BestOf d q (longest d q) ((occurrences d (keyAt d q) q).take Config.maxChain) (2, 0) r ∧
      pureSearch d q = if 3 ≤ r.1 then some r else none :=
  ⟨_, walkList_bestOf ((occurrences_pairwise d _ q).sublist (List.take_sublist _ _)), if_pos h⟩

theorem pureSearch_of_no_candidate {d : List Byte} {q : Nat} (hq : q + 3 ≤ d.length) (hc : candidates d q = []) :
    pureSearch d q = none := by
  have hh : hashable d q = true := decide_eq_true hq
  obtain ⟨r, hbest, hr⟩ := pureSearch_bestOf hh
  rw [candidates_eq hh, List.filter_eq_nil_iff] at hc
  rcases hbest.found with rfl | ⟨c, hmem, hw, -, -, -⟩
  · rw [hr, if_neg (by decide)]
  · exact absurd (decide_eq_true hw) (hc c hmem)

/-- R194's closed form. -/
theorem pureSearch_of_candidates {d : List Byte} {q : Nat} (hq : q + 3 ≤ d.length) (hc : candidates d q ≠ []) :
    ∃ L c, pureSearch d q = some (L, q - c) ∧ c ∈ candidates d q ∧ 3 ≤ L ∧ L ≤ longest d q ∧ agree d c q L ∧
      (∀ c' ∈ candidates d q, ∀ l ≤ longest d q, agree d c' q l → l ≤ L) ∧
      ∀ c' ∈ candidates d q, agree d c' q L → c' ≤ c := by
  have hh : hashable d q = true := decide_eq_true hq
  have h3 : 3 ≤ longest d q := Nat.le_min.mpr ⟨by decide, by omega⟩
  obtain ⟨r, hbest, hr⟩ := pureSearch_bestOf hh
  have hcand : ∀ c, c ∈ candidates d q ↔ c ∈ (occurrences d (keyAt d q) q).take Config.maxChain ∧
      q - c ≤ Config.windowSize := fun c => by rw [candidates_eq hh, List.mem_filter, decide_eq_true_eq]
  have hlongest : ∀ c ∈ candidates d q, agreement d q (longest d q) c ≤ r.1 := fun c hmem =>
    hbest.longest c ((hcand c).mp hmem).1 ((hcand c).mp hmem).2
  have hrlen : 3 ≤ r.1 := by
    obtain ⟨c, hmem⟩ := List.exists_mem_of_ne_nil _ hc
    obtain ⟨-, -, hkey⟩ := mem_occurrences.mp (List.mem_of_mem_take ((hcand c).mp hmem).1)
    exact (le_agreement (agree_of_keyAt_eq hkey) h3).trans (hlongest c hmem)
  rcases hbest.found with rfl | ⟨c, hmem, hw, rfl, -, hnear⟩
  · exact absurd hrlen (by decide)
  · refine ⟨_, c, hr.trans (if_pos hrlen), (hcand c).mpr ⟨hmem, hw⟩, hrlen, agreement_le _ _ _ _, agree_agreement _ _ _ _,
      fun c' hmem' l hl hag => (le_agreement hag hl).trans (hlongest c' hmem'), fun c' hmem' hag => ?_⟩
    exact hnear c' ((hcand c').mp hmem').1 (le_agreement hag (agreement_le _ _ _ _))

theorem exec_tkFindmatch {s : State} {d : List Byte} (hd : s.input = some d) {q : Nat} (hq : q < s.n) :
    exec (.tkFindmatch q) s =
      .next { s with tk := (findMatch d s.tk q).2, result := searchResult (findMatch d s.tk q).1 } :=
  (withInput_eq hd _).trans (if_pos hq)

theorem exec_tkFindmatch_beyond {s : State} {d : List Byte} (hd : s.input = some d) {q : Nat} (hq : s.n ≤ q) :
    exec (.tkFindmatch q) s = .next
      { s with
        tk := (findMatch d s.tk q).2
        result := searchResult (Config.freeSearch s.free)
        free := s.free + 1 } :=
  (withInput_eq hd _).trans (if_neg (Nat.not_lt.mpr hq))

/-- Tables that are those of the first `k` insertions hold their chains. -/
theorem TK.chains_of_eq {d : List Byte} {tk : TK} {k : Nat} (hhead : tk.head = ((TK.start []).insertMany d k).head)
    (hprev : tk.prev = ((TK.start []).insertMany d k).prev) (hins : tk.ins = k) : tk.Chains d := by
  have h := (TK.start_chains d []).insertMany k
  have hk : ((TK.start []).insertMany d k).ins = k := (TK.ins_insertMany d _ k).trans (Nat.zero_add k)
  refine ⟨hprev ▸ h.prev_wf, fun key => ?_, fun c hc => ?_⟩
  · rw [hhead, hins, h.head, hk]
  · rw [hprev]
    exact h.prev c (by omega)

/-- Settles O36: the search is a fold over the candidates (`TK.Chains.walkChain`), and the fold finds the longest match and the
nearest candidate that has it (`walkList_bestOf`, by induction on the candidates). -/
theorem findmatchClosedForm : Obligations.FindmatchClosedForm := by
  refine fun s d q hd => ⟨fun hq => ⟨_, exec_tkFindmatch_beyond hd hq⟩, fun hq k hhead hprev hins => ?_⟩
  have hlen := State.length_input hd
  refine ⟨bestMatch d q, ?_, rfl, ?_⟩
  · rw [exec_tkFindmatch hd hq, (TK.chains_of_eq hhead hprev hins).findMatch, bestMatch_eq_pureSearch, findMatch_tk,
      TK.insertUpto, hins]
  · rw [bestMatch_eq_pureSearch, ← hlen]
    exact ⟨pureSearch_of_not_hashable, pureSearch_of_no_candidate, pureSearch_of_candidates⟩

/-! ### `TK.INSERT` and `TK.TOKENIZE` (R192, R196, R197) -/

theorem exec_tkInsert {s : State} {d : List Byte} (hd : s.input = some d) :
    exec (.tkInsert s.tk.ins) s = .next { s with tk := s.tk.insert d } :=
  (if_pos rfl).trans (withInput_eq hd _)

/-- Settles O35: where three bytes exist the position becomes the head of its chain; elsewhere only the cursor moves. -/
theorem insertUpdatesTheChains : Obligations.InsertUpdatesTheChains := by
  refine fun s d hd hwf => ⟨_, exec_tkInsert hd, TK.ins_insert d _, TK.p_insert d _, TK.queue_insert d _, fun hle => ?_,
    fun hlt => ?_⟩ <;> rw [← State.length_input hd] at *
  · rw [TK.insert_of_hashable (decide_eq_true hle)]
    exact ⟨fun k => Cells.get_put _ _ _ _, fun c => Cells.get_assign _ _ _ hwf⟩
  · rw [TK.insert_of_not_hashable fun h => absurd (of_decide_eq_true h) (Nat.not_le.mpr hlt)]
    exact ⟨rfl, rfl⟩

end Sys2Proof.Machine
end

section
/-! The tokenizer's loop is the lazy loop over the pure search (spec/43_lz77_tokenizer.md R196, R197). -/

namespace Sys2Proof.Machine

variable {d : List Byte}

/-- The token that R196's loop emits at `p`, over the pure search. -/
def lazyToken (d : List Byte) (p : Nat) : Token :=
  match bestMatch d p, if p + 1 < d.length then bestMatch d (p + 1) else none with
  | none, _ => .lit (byteAt d p)
  | some m, none => .mtch m.1 m.2
  | some m, some m2 => if m.1 < m2.1 then .lit (byteAt d p) else .mtch m.1 m.2

theorem lazyToken_cases (d : List Byte) (p : Nat) :
    lazyToken d p = .lit (byteAt d p) ∨ ∃ m, bestMatch d p = some m ∧ lazyToken d p = .mtch m.1 m.2 := by
  unfold lazyToken
  split
  · exact .inl rfl
  · exact .inr ⟨_, ‹_›, rfl⟩
  · split
    · exact .inl rfl
    · exact .inr ⟨_, ‹_›, rfl⟩

theorem lazyToken_spellsAt {p : Nat} (hp : p < d.length) : (lazyToken d p).SpellsAt d p := by
  rcases lazyToken_cases d p with h | ⟨m, hm, h⟩ <;> rw [h]
  · exact spellsAt_lit hp
  · obtain ⟨hlen, hmatch⟩ := findMatch_matchAt (TK.start_falling []) hm
    exact spellsAt_mtch hp hlen hmatch

theorem lazyFrom_of_lt {p : Nat} (hp : p < d.length) (fuel : Nat) :
    lazyFrom d p (fuel + 1) = lazyToken d p :: lazyFrom d (p + (lazyToken d p).width) fuel := by
  rw [lazyFrom, if_pos hp, lazyToken]
  cases bestMatch d p with
  | none => rfl
  | some m =>
    cases (if p + 1 < d.length then bestMatch d (p + 1) else none) with
    | none => rfl
    | some m2 => by_cases hlt : m.1 < m2.1 <;> simp only [hlt, if_true, if_false] <;> rfl

theorem lazyFrom_of_le {p : Nat} (hp : d.length ≤ p) (fuel : Nat) : lazyFrom d p fuel = [] := by
  cases fuel
  · rfl
  · exact if_neg (Nat.not_lt.mpr hp)

/-- The tokenizer with this position and queue, its chains as they are. -/
def TK.place (p : Nat) (queue : List Token) (tk : TK) : TK := { tk with p := p, queue := queue }

/-- The tokenizer with the first `k` positions in the chains, at position `p`, with this queue. -/
def TK.reached (d : List Byte) (k p : Nat) (queue : List Token) : TK := ((TK.start []).insertMany d k).place p queue

/-- The chains know neither the position nor the queue. -/
theorem TK.insert_place (tk : TK) (p : Nat) (queue : List Token) :
    (tk.place p queue).insert d = (tk.insert d).place p queue := by
  by_cases hh : hashable d tk.ins = true
  · exact (TK.insert_of_hashable (tk := tk.place p queue) hh).trans
      (congrArg (TK.place p queue) (TK.insert_of_hashable hh).symm)
  · exact (TK.insert_of_not_hashable (tk := tk.place p queue) hh).trans
      (congrArg (TK.place p queue) (TK.insert_of_not_hashable hh).symm)

theorem TK.insertMany_place (tk : TK) (k p : Nat) (queue : List Token) :
    (tk.place p queue).insertMany d k = (tk.insertMany d k).place p queue := by
  induction k generalizing tk with
  | zero => rfl
  | succ k ih => rw [TK.insertMany, TK.insert_place, ih, TK.insertMany]

theorem TK.reached_chains (d : List Byte) (k p : Nat) (queue : List Token) : (TK.reached d k p queue).Chains d :=
  let ⟨hwf, hhead, hprev⟩ := (TK.start_chains d []).insertMany k
  ⟨hwf, hhead, hprev⟩

theorem TK.insertUpto_reached (k p q : Nat) (queue : List Token) :
    (TK.reached d k p queue).insertUpto d q = TK.reached d (max k q) p queue := by
  have hk : (TK.reached d k p queue).ins = k := (TK.ins_insertMany d _ k).trans (Nat.zero_add k)
  rw [TK.insertUpto, hk, TK.reached, TK.insertMany_place, ← TK.insertMany_add, TK.reached,
    show k + (q - k) = max k q by omega]

/-- One iteration emits the lazy token, and no search goes beyond the end of the input. -/
theorem tokenizeStep_reached {k p : Nat} (hk : k ≤ d.length) (hp : p < d.length) (queue : List Token) :
    ∃ k' ≤ d.length, tokenizeStep d (TK.reached d k p queue) =
      TK.reached d k' (p + (lazyToken d p).width) (queue ++ [lazyToken d p]) := by
  have hfind (k q : Nat) : findMatch d (TK.reached d k p queue) q = (bestMatch d q, TK.reached d (max k q) p queue) :=
    Prod.ext (((TK.reached_chains d k p queue).findMatch q).trans (bestMatch_eq_pureSearch d q).symm)
      (TK.insertUpto_reached k p q queue)
  have hpos : (TK.reached d k p queue).p = p := rfl
  have hhere : max k p ≤ d.length := max_le hk hp.le
  by_cases hnext : p + 1 < d.length
  · have hahead : max (max k p) (p + 1) ≤ d.length := max_le hhere hnext.le
    simp only [tokenizeStep, lazyToken, hpos, hfind, if_pos hnext]
    cases bestMatch d p with
    | none => exact ⟨_, hhere, rfl⟩
    | some m =>
      refine ⟨_, hahead, ?_⟩
      cases bestMatch d (p + 1) with
      | none => rfl
      | some m2 => by_cases hlt : m.1 < m2.1 <;> simp only [hlt, if_true, if_false] <;> rfl
  · simp only [tokenizeStep, lazyToken, hpos, hfind, if_neg hnext]
    refine ⟨_, hhere, ?_⟩
    cases bestMatch d p <;> rfl

/-- R196's loop runs to the end of the input and emits the lazy tokens. -/
theorem tokenizeLoop_reached {k p fuel : Nat} (hk : k ≤ d.length) (hp : p ≤ d.length) (hf : d.length ≤ p + fuel)
    (queue : List Token) : ∃ k' ≤ d.length, tokenizeLoop d (TK.reached d k p queue) fuel =
      TK.reached d k' d.length (queue ++ lazyFrom d p fuel) := by
  induction fuel generalizing k p queue with
  | zero =>
    obtain rfl : p = d.length := Nat.le_antisymm hp hf
    exact ⟨k, hk, by rw [lazyFrom, List.append_nil]; rfl⟩
  | succ fuel ih =>
    rcases Nat.lt_or_eq_of_le hp with hlt | rfl
    · have hspells := lazyToken_spellsAt hlt
      obtain ⟨k₁, hk₁, hstep⟩ := tokenizeStep_reached hk hlt queue
      obtain ⟨k', hk', hloop⟩ := ih hk₁ hspells.fits (by have := hspells.width_pos; omega) (queue ++ [lazyToken d p])
      refine ⟨k', hk', ?_⟩
      rw [tokenizeLoop, if_pos (show (TK.reached d k p queue).p < d.length from hlt), hstep, hloop, lazyFrom_of_lt hlt,
        List.append_assoc, List.singleton_append]
    · refine ⟨k, hk, ?_⟩
      rw [lazyFrom_of_le (Nat.le_refl _), List.append_nil]
      exact if_neg (Nat.lt_irrefl _)

theorem TK.tokenize_eq_reached (d : List Byte) (tk : TK) :
    tk.tokenize d = TK.reached d d.length d.length (tk.queue ++ lazyFrom d 0 d.length) := by
  obtain ⟨k, hk, hloop⟩ := tokenizeLoop_reached (Nat.zero_le _) (Nat.zero_le _) (Nat.le_add_left d.length 0) tk.queue
  exact (congrArg (TK.insertUpto d d.length) hloop).trans
    ((TK.insertUpto_reached k _ _ _).trans (by rw [Nat.max_eq_right hk]))

/-- Settles O38: each iteration of the loop emits the lazy token, by induction on the iterations. -/
theorem tokenizeIsTheLazyLoop : Obligations.TokenizeIsTheLazyLoop := fun d =>
  congrArg TK.queue (TK.tokenize_eq_reached d (TK.start []))

/-- Settles O37: the loop leaves some positions inserted, and the last `insert_upto` the others. -/
theorem tokenizeRuns : Obligations.TokenizeRuns := by
  intro s d hd
  rw [exec_tkTokenize hd, TK.tokenize_eq_reached, ← tokenizeIsTheLazyLoop d, ← State.length_input hd,
    show TK.start (s.tk.queue ++ tokenize d) = (TK.start []).place 0 (s.tk.queue ++ tokenize d) from rfl,
    TK.insertMany_place]
  rfl

end Sys2Proof.Machine
end

section
/-! The writer appends: what stands in its buffer already has no part in what an operation adds (spec/40_bitstream.md R27;
spec/44_deflate_fixed_encoder.md R210). -/

namespace Sys2Proof.Machine

/-- The writer with bytes before its buffer. -/
def BW.after (before : List Byte) (bw : BW) : BW := { bw with buf := before ++ bw.buf }

/-- An operation of the writer that does not look at the buffer. -/
def Appends (g : BW → BW) : Prop := ∀ before bw, g (bw.after before) = (g bw).after before

theorem Appends.comp {g g' : BW → BW} (hg : Appends g) (hg' : Appends g') : Appends fun bw => g' (g bw) :=
  fun before bw => (congrArg g' (hg before bw)).trans (hg' before (g bw))

theorem appends_writeBits (v n : Nat) : Appends (·.writeBits v n) := fun before bw => BW.writeBits_append_buf before bw v n

theorem appends_align : Appends BW.align := by
  intro before bw
  unfold BW.align BW.after
  split
  · exact congrArg (BW.mk · 0 0) (List.append_assoc _ _ _)
  · rfl

theorem appends_encodeToken (t : Token) : Appends (encodeToken · t) := by
  cases t with
  | lit b => exact appends_writeBits _ _
  | mtch len dist =>
    exact (((appends_writeBits _ _).comp (appends_writeBits _ _)).comp (appends_writeBits _ _)).comp (appends_writeBits _ _)

theorem appends_foldl_encodeToken (ts : List Token) : Appends (ts.foldl encodeToken ·) := by
  induction ts with
  | nil => exact fun _ _ => rfl
  | cons t ts ih => exact (appends_encodeToken t).comp ih

theorem appends_encodeBlockBits (ts : List Token) : Appends (encodeBlockBits ts) :=
  (((appends_writeBits 1 1).comp (appends_writeBits 1 2)).comp (appends_foldl_encodeToken ts)).comp
    ((appends_writeBits _ _).comp appends_align)

/-- A writer that holds no bit is its buffer alone. -/
theorem BW.eq_of_aligned {bw : BW} (hacc : bw.acc = 0) (hc : bw.cnt = 0) : bw = ⟨bw.buf, 0, 0⟩ := by
  obtain ⟨buf, acc, cnt⟩ := bw
  obtain rfl : acc = 0 := hacc
  obtain rfl : cnt = 0 := hc
  rfl

/-- On a byte boundary the block is appended as `ENC.BLOCK` writes it from a fresh writer (R210). -/
theorem encodeBlockBits_of_aligned {bw : BW} (h : bw.Ok) (hc : bw.cnt = 0) (ts : List Token) :
    encodeBlockBits ts bw = ⟨bw.buf ++ blockBytes ts, 0, 0⟩ := by
  have hbw : bw = BW.empty.after bw.buf :=
    (BW.eq_of_aligned (BW.acc_of_cnt_zero h hc) hc).trans (by rw [BW.after, BW.empty, List.append_nil])
  have hblock : encodeBlockBits ts BW.empty = ⟨blockBytes ts, 0, 0⟩ :=
    BW.eq_of_aligned (acc_encodeBlockBits BW.empty_ok ts) (cnt_encodeBlockBits ts BW.empty)
  calc encodeBlockBits ts bw = (encodeBlockBits ts BW.empty).after bw.buf := by
        rw [← appends_encodeBlockBits, ← hbw]
    _ = ⟨bw.buf ++ blockBytes ts, 0, 0⟩ := by rw [hblock, BW.after]

end Sys2Proof.Machine
end

section
/-! What an instruction can do to the state (spec/60_exceptions.md R302; spec/10_state.md R25, R26, R40; spec/20_memory.md R60): it
continues the command, or ends it with an error of its own list, and either way it keeps what the host reads and the units'
invariants; it depends on no byte of `IN` beyond `n`. -/

namespace Sys2Proof.Machine

/-! ### Decoder operations -/

/-- What a decoder operation run at `d` leaves, and the kinds it can raise: the reader's invariant is kept and `OUT` only grows. -/
structure Res.Sound {α : Type} (r : Res Inflater α) (d : Inflater) (es : List ErrKind) : Prop where
  ok : d.br.Ok → r.state.br.Ok
  out : d.out <+: r.state.out
  error : ∀ e d', r = .raise e d' → e ∈ es

section Sound

variable {α β : Type} {d d' : Inflater} {es : List ErrKind}

theorem Res.Sound.of_ok {a : α} (hok : d.br.Ok → d'.br.Ok) (hout : d.out <+: d'.out) :
    (Res.ok a d' : Res Inflater α).Sound d es := ⟨hok, hout, nofun⟩

theorem sound_ok (a : α) (d : Inflater) : (Res.ok a d).Sound d es := .of_ok id (List.prefix_refl _)

theorem sound_raise {e : ErrKind} (he : e ∈ es) (d : Inflater) : (Res.raise e d : Res Inflater α).Sound d es :=
  ⟨id, List.prefix_refl _, fun _ _ h => by cases h; exact he⟩

theorem Res.Sound.bind {r : Res Inflater α} {f : α → Inflater → Res Inflater β} (h : r.Sound d es)
    (hf : ∀ a d', (f a d').Sound d' es) : (r.bind f).Sound d es := by
  cases r with
  | ok a d' =>
    obtain ⟨hok, hout, herr⟩ := hf a d'
    exact ⟨fun h' => hok (h.ok h'), h.out.trans hout, herr⟩
  | raise e d' => exact ⟨h.ok, h.out, fun _ _ he => by cases he; exact h.error e d' rfl⟩

/-- An operation may start after a change of the decoder that keeps the same. -/
theorem Res.Sound.after {r : Res Inflater α} (h : r.Sound d' es) (hok : d.br.Ok → d'.br.Ok) (hout : d.out <+: d'.out) :
    r.Sound d es := ⟨fun h' => h.ok (hok h'), hout.trans h.out, h.error⟩

theorem Res.Sound.mono {r : Res Inflater α} {es' : List ErrKind} (h : r.Sound d es) (hs : es ⊆ es') : r.Sound d es' :=
  ⟨h.ok, h.out, fun e d' he => hs (h.error e d' he)⟩

/-- A reader operation changes no output, and the only error it raises is `E_TRUNCATED`. -/
theorem sound_onReader {f : BR → Res BR α} (hok : d.br.Ok → (onReader f d).state.br.Ok)
    (hf : ∀ e br, f d.br = .raise e br → e = .truncated) : (onReader f d).Sound d [.truncated] := by
  refine ⟨hok, ?_, fun e d' he => ?_⟩
  · unfold onReader
    cases f d.br <;> exact List.prefix_refl _
  · obtain ⟨br, hbr, -⟩ := onReader_eq_raise.mp he
    exact List.mem_singleton.mpr (hf e br hbr)

theorem sound_readBits {n : Nat} (hn : n ≤ 16) (d : Inflater) : (onReader (·.readBits n) d).Sound d [.truncated] :=
  sound_onReader (fun h => (later_readBits h hn).ok) fun e br he => by
    rcases d.br.readBits_cases n with ⟨-, h⟩ | ⟨-, h⟩ <;> rw [h] at he <;> cases he
    rfl

theorem sound_takeBits {n : Nat} (hn : n ≤ 16) (d : Inflater) : (takeBits n d).Sound d [.truncated] :=
  sound_onReader (fun h => (later_takeBits h hn).ok) fun e br he => by
    rcases d.br.skipBits_cases n with ⟨-, h⟩ | ⟨-, h⟩ <;> rw [h] at he <;> cases he
    rfl

theorem sound_takeSymbol {sym : Nat} (hs : sym < 288) (d : Inflater) : (takeSymbol sym d).Sound d [.truncated] :=
  sound_onReader (fun h => (later_takeSymbol h hs).ok) fun e br he => by
    rcases takeCode_cases (litlenCode sym).2 d.br with ⟨-, h⟩ | ⟨-, h⟩ <;> rw [h] at he <;> cases he
    rfl

theorem sound_hdLitlen (d : Inflater) : (onReader hdLitlen d).Sound d [.truncated] :=
  sound_onReader (fun h => (later_hdLitlen h).ok) fun e br he => by
    rcases hdLitlen_cases d.br with ⟨-, h⟩ | ⟨-, h⟩ <;> rw [h] at he <;> cases he
    rfl

theorem sound_hdDist (d : Inflater) : (onReader hdDist d).Sound d [.truncated] :=
  sound_onReader (fun h => (later_hdDist h).ok) fun e br he => by
    rcases hdDist_cases d.br with ⟨-, h⟩ | ⟨-, h⟩ <;> rw [h] at he <;> cases he
    rfl

theorem sound_append (b : Byte) (a : α) (d : Inflater) : (Res.ok a (d.append b)).Sound d es :=
  .of_ok id (List.prefix_append _ _)

theorem sound_resolveMatch (len dist : Nat) (d : Inflater) : (resolveMatch len dist d).Sound d [.badDistance] := by
  unfold resolveMatch
  split
  · exact sound_raise List.mem_cons_self d
  · exact .of_ok id (prefix_copyMatch _ _ _)

theorem sound_readBlockHeader (d : Inflater) : (readBlockHeader d).Sound d [.truncated] :=
  (sound_readBits (by decide) d).bind fun f d' =>
    .bind (.after (d' := { d' with bfinal := BitVec.ofNat 1 f }) (sound_readBits (by decide) _) id (List.prefix_refl _))
      fun _ _ => .of_ok id (List.prefix_refl _)

theorem sound_storedCopy (d : Inflater) (k : Nat) : (storedCopy d k).Sound d [.truncated] := by
  induction k generalizing d with
  | zero => exact sound_ok () d
  | succ k ih =>
    exact (sound_readBits (by decide) d).bind fun b d' => (ih _).after id (List.prefix_append _ _)

/-- What follows the two lengths of a stored block (R237, R238). -/
theorem sound_storedData (c : Prop) [Decidable c] (d : Inflater) (k : Nat) :
    (if c then storedCopy d k else .raise .lenNlen d).Sound d [.truncated, .lenNlen] := by
  split
  · exact (sound_storedCopy d k).mono (by decide)
  · exact sound_raise (by decide) d

theorem sound_readStored (d : Inflater) : (readStored d).Sound d [.truncated, .lenNlen] :=
  .bind (.after (d' := { d with br := d.br.align }) (.mono (sound_readBits (by decide) _) (by decide)) BR.align_ok
      (List.prefix_refl _)) fun _ d' =>
    .bind (.mono (sound_readBits (by decide) d') (by decide)) fun _ d'' => sound_storedData _ d'' _

theorem lenExtra_le_sixteen (i : Nat) : lenExtra i ≤ 16 := (lenExtra_le i).trans (by decide)
theorem distExtra_le_sixteen (j : Nat) : distExtra j ≤ 16 := (distExtra_le j).trans (by decide)

theorem sound_readMatch (i : Nat) (d : Inflater) :
    (readMatch i d).Sound d [.truncated, .badSymbol, .badDistance] := by
  refine ((sound_readBits (lenExtra_le_sixteen i) d).mono (by decide)).bind fun e d => ?_
  refine ((sound_hdDist d).mono (by decide)).bind fun j d => ?_
  split
  · exact sound_raise (by decide) d
  · exact ((sound_readBits (distExtra_le_sixteen j) d).mono (by decide)).bind fun x d =>
      (sound_resolveMatch _ _ d).mono (by decide)

theorem sound_readFixedItem (d : Inflater) : (readFixedItem d).Sound d [.truncated, .badSymbol, .badDistance] := by
  refine ((sound_hdLitlen d).mono (by decide)).bind fun sym d => ?_
  split
  · exact sound_append _ _ d
  · split
    · exact sound_ok _ d
    · split
      · exact sound_raise (by decide) d
      · exact (sound_readMatch _ d).bind fun _ d => sound_ok _ d

theorem sound_readFixedLoop (d : Inflater) (fuel : Nat) :
    (readFixedLoop d fuel).Sound d [.truncated, .badSymbol, .badDistance] := by
  induction fuel generalizing d with
  | zero => exact sound_raise (by decide) d
  | succ fuel ih =>
    refine (sound_readFixedItem d).bind fun done d => ?_
    split
    · exact sound_ok _ d
    · exact ih d

theorem sound_readBlockBody (d : Inflater) :
    (readBlockBody d).Sound d [.truncated, .badBlockType, .lenNlen, .badSymbol, .badDistance] := by
  unfold readBlockBody
  split
  · exact (sound_readStored d).mono (by decide)
  · split
    · exact (sound_readFixedLoop d _).mono (by decide)
    · exact sound_raise (by decide) d

theorem sound_inflateLoop (d : Inflater) (fuel : Nat) :
    (inflateLoop d fuel).Sound d [.truncated, .badBlockType, .lenNlen, .badSymbol, .badDistance] := by
  induction fuel generalizing d with
  | zero => exact sound_raise (by decide) d
  | succ fuel ih =>
    refine ((sound_readBlockHeader d).mono (by decide)).bind fun _ d => (sound_readBlockBody d).bind fun _ d => ?_
    split
    · exact sound_ok _ d
    · exact ih d

theorem sound_takeHeader (btype : BitVec 2) (f : BitVec 1) (d : Inflater) : (takeHeader btype f d).Sound d [.truncated] :=
  (sound_takeBits (by decide) d).bind fun _ d' =>
    .bind (.after (d' := { d' with bfinal := f }) (sound_takeBits (by decide) _) id (List.prefix_refl _)) fun _ _ =>
      .of_ok id (List.prefix_refl _)

end Sound

/-! ### Steps -/

/-- What no instruction of a running command changes: the host's registers and memory, and what is still to run. -/
def State.fixed (s : State) : BitVec 2 × BitVec 8 × Nat × Nat × Memory × Nat × List Nat × List HostEvent :=
  (s.cmd, s.status, s.inLen, s.outLen, s.inBuf, s.n, s.uops, s.inbox)

/-- A state after `s` in the same command, the invariants of the units kept. -/
structure State.Keeps (s t : State) : Prop where
  fixed : t.fixed = s.fixed
  writer : s.bw.Ok → t.bw.Ok
  reader : s.br.Ok → t.br.Ok
  tables : s.tk.Wf → t.tk.Wf

/-- The phase in which an element of a format is read (R40); `idle` for what is no element of a stream. -/
def phaseOf (f : Format) : Phase :=
  match f with
  | .gzhdr | .gzopt => .dHeader
  | .blkhdr | .stored | .litlen | .dist => .dInflate
  | .gzftr => .dFooter
  | .cmd | .uop => .idle

/-- What an instruction of a format does to the sequencer: nothing, or, for an element in its phase, it leaves what may be
expected next. -/
def Sequenced (f : Format) (s t : State) : Prop :=
  (t.phase = s.phase ∧ t.expect = s.expect) ∨
    phaseOf f ≠ .idle ∧ (s.phase = phaseOf f → t.phase ≠ .idle ∧ t.phase.compressing = false ∧ expectFits t.phase t.expect)

/-- The command goes on: besides, `OUT` only grows (R26). -/
structure State.Continues (f : Format) (s t : State) : Prop where
  keeps : s.Keeps t
  out : s.out <+: t.out
  sequenced : Sequenced f s t

/-- The state with another memory `IN`. -/
def State.withIn (s : State) (m : Memory) : State := { s with inBuf := m }

/-- What an instruction of a format, with a list of error kinds, means: the command goes on, or ends with one of the errors; and
memories that agree below `n` give the same step. -/
structure Meaning (f : Format) (es : List ErrKind) (act : State → StepResult) : Prop where
  outcome : ∀ s t, act s = .next t → State.Continues f s t ∨ ∃ e ∈ es, ∃ u, s.Keeps u ∧ t = raiseError e u
  memory : ∀ (s t : State) (m : Memory), m.readBytes 0 s.n = s.inBuf.readBytes 0 s.n → act s = .next t →
    act (s.withIn m) = .next (t.withIn m)

theorem State.Keeps.refl (s : State) : s.Keeps s := ⟨rfl, id, id, id⟩

theorem State.Continues.refl (f : Format) (s : State) : State.Continues f s s := ⟨.refl s, List.prefix_refl _, .inl ⟨rfl, rfl⟩⟩

section Meanings

variable {f : Format} {es : List ErrKind}

theorem meaning_refused (r : Refusal) : Meaning f es fun _ => .refused r :=
  ⟨fun _ t (h : .refused r = Host.Outcome.next t) => (nomatch h),
    fun _ t _ _ (h : .refused r = Host.Outcome.next t) => (nomatch h)⟩

theorem meaning_raise {e : ErrKind} (he : e ∈ es) : Meaning f es fun s => .next (raiseError e s) :=
  ⟨fun s _ h => .inr ⟨e, he, s, .refl s, (Host.Outcome.next.inj h).symm⟩,
    fun _ _ m _ h => congrArg (fun t : State => Host.Outcome.next (t.withIn m)) (Host.Outcome.next.inj h)⟩

theorem meaning_next {g : State → State} (hg : ∀ s, State.Continues f s (g s))
    (hm : ∀ s m, g (s.withIn m) = (g s).withIn m) : Meaning f es fun s => .next (g s) :=
  ⟨fun s _ h => .inl (Host.Outcome.next.inj h ▸ hg s),
    fun s _ m _ h => congrArg Host.Outcome.next ((hm s m).trans (congrArg (State.withIn · m) (Host.Outcome.next.inj h)))⟩

theorem Meaning.ite {a b : State → StepResult} {c : State → Prop} [DecidablePred c]
    (hc : ∀ (s : State) (m : Memory), c (s.withIn m) ↔ c s) (ha : Meaning f es a) (hb : Meaning f es b) :
    Meaning f es fun s => if c s then a s else b s := by
  refine ⟨fun s t h => ?_, fun s t m hm h => ?_⟩ <;> by_cases hs : c s
  · exact ha.outcome s t ((if_pos hs).symm.trans h)
  · exact hb.outcome s t ((if_neg hs).symm.trans h)
  · exact (if_pos ((hc s m).mpr hs)).trans (ha.memory s t m hm ((if_pos hs).symm.trans h))
  · exact (if_neg (mt (hc s m).mp hs)).trans (hb.memory s t m hm ((if_neg hs).symm.trans h))

theorem meaning_withInput {k : List Byte → State → StepResult} (hk : ∀ d, Meaning f es (k d)) :
    Meaning f es fun s => withInput s fun d => k d s := by
  have hinput {s t : State} {m : Memory} (hm : m.readBytes 0 s.n = s.inBuf.readBytes 0 s.n)
      (h : (withInput s fun d => k d s) = .next t) : ∃ d, s.input = some d ∧ k d s = .next t ∧
        (s.withIn m).input = some d := by
    cases hi : s.input with
    | none => rw [withInput, hi] at h; cases h
    | some d => exact ⟨d, rfl, (withInput_eq hi _).symm.trans h, hm.trans hi⟩
  refine ⟨fun s t h => ?_, fun s t m hm h => ?_⟩
  · obtain ⟨d, -, hd, -⟩ := hinput rfl h
    exact (hk d).outcome s t hd
  · obtain ⟨d, -, hd, hd'⟩ := hinput hm h
    exact (withInput_eq hd' _).trans ((hk d).memory s t m hm hd)

/-- A unit's operation that returns or raises, run on the state. -/
theorem Meaning.of_run {σ α : Type} {act : State → StepResult} {r : State → Res σ α} {put : State → σ → State}
    {g : α → State → State}
    (hact : ∀ s, (∃ a x, r s = .ok a x ∧ act s = .next (g a (put s x))) ∨
      ∃ e x, r s = .raise e x ∧ act s = .next (raiseError e (put s x)))
    (hr : ∀ s m, r (s.withIn m) = r s) (hput : ∀ s m x, put (s.withIn m) x = (put s x).withIn m)
    (hg : ∀ a s m, g a (s.withIn m) = (g a s).withIn m)
    (hok : ∀ s a x, r s = .ok a x → State.Continues f s (g a (put s x)))
    (hraise : ∀ s e x, r s = .raise e x → e ∈ es ∧ s.Keeps (put s x)) : Meaning f es act := by
  refine ⟨fun s t h => ?_, fun s t m _ h => ?_⟩
  · rcases hact s with ⟨a, x, hrs, hs⟩ | ⟨e, x, hrs, hs⟩ <;> obtain rfl := Host.Outcome.next.inj (hs.symm.trans h)
    · exact .inl (hok s a x hrs)
    · exact .inr ⟨e, (hraise s e x hrs).1, put s x, (hraise s e x hrs).2, rfl⟩
  · rcases hact s with ⟨a, x, hrs, hs⟩ | ⟨e, x, hrs, hs⟩ <;> obtain rfl := Host.Outcome.next.inj (hs.symm.trans h) <;>
      rcases hact (s.withIn m) with ⟨a', x', hrs', hs'⟩ | ⟨e', x', hrs', hs'⟩ <;>
      rw [hr, hrs] at hrs' <;> cases hrs' <;> rw [hs', hput]
    · rw [hg]
    · rfl

/-- A change of the state after a decoder operation: only the sequencer and the latch of the length. -/
structure Advances (f : Format) (g : State → State) : Prop where
  memory : ∀ s m, g (s.withIn m) = (g s).withIn m
  fixed : ∀ s, (g s).fixed = s.fixed
  units : ∀ s, ((g s).out, (g s).bw, (g s).br, (g s).tk) = (s.out, s.bw, s.br, s.tk)
  sequenced : ∀ s, Sequenced f s (g s)

theorem State.keeps_withInflater {s : State} {d : Inflater} (hok : s.br.Ok → d.br.Ok) : s.Keeps (s.withInflater d) :=
  ⟨rfl, id, hok, id⟩

theorem meaning_runInflater {α : Type} {r : State → Res Inflater α} {g : State → State}
    (hr : ∀ s m, r (s.withIn m) = r s) (hs : ∀ s, (r s).Sound s.inflater es) (hg : Advances f g) :
    Meaning f es fun s => runInflater (r s) s fun _ t => .next (g t) := by
  refine .of_run (r := r) (put := State.withInflater) (g := fun _ => g)
    (fun s => runInflater_cases (r s) s _) hr (fun _ _ _ => rfl) (fun _ => hg.memory) (fun s a d ha => ?_)
    fun s e d he => ⟨(hs s).error e d he, State.keeps_withInflater fun h => by
      have := (hs s).ok h
      rwa [he] at this⟩
  have hunits := hg.units (s.withInflater d)
  simp only [Prod.mk.injEq] at hunits
  obtain ⟨hout, hbw, hbr, htk⟩ := hunits
  have hok := (hs s).ok
  have hgrow := (hs s).out
  rw [ha] at hok hgrow
  exact ⟨⟨hg.fixed _, hbw ▸ id, hbr ▸ hok, htk ▸ id⟩, hout ▸ hgrow, hg.sequenced (s.withInflater d)⟩

end Meanings

end Sys2Proof.Machine
end

section
/-! The meaning of every instruction: the operations that the elements share first, then the dispatch (spec/30_encoding.md). -/

namespace Sys2Proof.Machine

section Items

variable {f : Format} {es : List ErrKind}

/-! ### What follows a decoder operation -/

theorem advances_id : Advances f id := ⟨fun _ _ => rfl, fun _ => rfl, fun _ => rfl, fun _ => .inl ⟨rfl, rfl⟩⟩

/-- In a block, another element of the block may be expected. -/
theorem sequenced_expect (hf : phaseOf f = .dInflate) {s t : State} (hp : t.phase = s.phase)
    (he : expectFits .dInflate t.expect) : Sequenced f s t :=
  .inr ⟨hf ▸ nofun, fun h => by rw [hp, h, hf]; exact ⟨nofun, rfl, he⟩⟩

theorem advances_expect (hf : phaseOf f = .dInflate) {e : Expect} (he : expectFits .dInflate e) :
    Advances f fun t => { t with expect := e } :=
  ⟨fun _ _ => rfl, fun _ => rfl, fun _ => rfl, fun _ => sequenced_expect hf rfl he⟩

theorem advances_length (hf : phaseOf f = .dInflate) (l : Nat) :
    Advances f fun t => { t with dec := { t.dec with len := l }, expect := .dist } :=
  ⟨fun _ _ => rfl, fun _ => rfl, fun _ => rfl, fun _ => sequenced_expect hf rfl rfl⟩

theorem advances_endBlock (hf : phaseOf f = .dInflate) : Advances f endBlock where
  memory s m := by rw [endBlock_eq, endBlock_eq]; rfl
  fixed s := by rw [endBlock_eq]; rfl
  units s := by rw [endBlock_eq]
  sequenced s := by
    by_cases hb : s.dec.bfinal = 1
    · rw [endBlock_eq, if_pos hb, if_pos hb]
      exact .inr ⟨hf ▸ nofun, fun _ => ⟨nofun, rfl, rfl⟩⟩
    · rw [endBlock_eq, if_neg hb, if_neg hb]
      exact sequenced_expect hf rfl rfl

/-! ### Elements of a block -/

theorem meaning_literalItem (b : Byte) : Meaning .litlen [.truncated] (literalItem b) :=
  meaning_runInflater (fun _ _ => rfl)
    (fun s => (sound_takeSymbol (by have := b.isLt; omega) s.inflater).bind fun _ d => sound_append b () d) advances_id

theorem meaning_eobItem : Meaning .litlen [.truncated] eobItem :=
  meaning_runInflater (fun _ _ => rfl) (fun s => sound_takeSymbol (by decide) s.inflater) (advances_endBlock rfl)

theorem meaning_lengthItem {i : Nat} (hi : i < 29) (e : Nat) : Meaning .litlen [.truncated] (lengthItem i e) :=
  meaning_runInflater (fun _ _ => rfl)
    (fun s => (sound_takeSymbol (by omega) s.inflater).bind fun _ d => sound_takeBits (lenExtra_le_sixteen i) d)
    (advances_length rfl (lengthOf i e))

theorem meaning_reservedLitlenItem {sym : Nat} (hs : sym < 288) :
    Meaning .litlen [.truncated, .badSymbol] (reservedLitlenItem sym) :=
  meaning_runInflater (fun _ _ => rfl)
    (fun s => ((sound_takeSymbol hs s.inflater).mono (by decide)).bind fun _ d => sound_raise (by decide) d) advances_id

theorem meaning_distanceItem (j x : Nat) : Meaning .dist [.truncated, .badDistance] (distanceItem j x) :=
  meaning_runInflater (fun _ _ => rfl)
    (fun s => ((sound_takeBits (by decide) s.inflater).mono (by decide)).bind fun _ d =>
      ((sound_takeBits (distExtra_le_sixteen j) d).mono (by decide)).bind fun _ d =>
        (sound_resolveMatch _ _ d).mono (by decide))
    (advances_expect rfl rfl)

theorem meaning_reservedDistItem : Meaning .dist [.truncated, .badSymbol] reservedDistItem :=
  meaning_runInflater (fun _ _ => rfl)
    (fun s => ((sound_takeBits (by decide) s.inflater).mono (by decide)).bind fun _ d => sound_raise (by decide) d)
    advances_id

theorem meaning_blockItem (btype : BitVec 2) (b : BitVec 1) {body : Expect} (hb : expectFits .dInflate body) :
    Meaning .blkhdr [.truncated] (blockItem btype b body) :=
  meaning_runInflater (fun _ _ => rfl) (fun s => sound_takeHeader btype b s.inflater) (advances_expect rfl hb)

theorem meaning_badBlockItem (btype : BitVec 2) (b : BitVec 1) :
    Meaning .blkhdr [.truncated, .badBlockType] (badBlockItem btype b) :=
  meaning_runInflater (fun _ _ => rfl)
    (fun s => ((sound_takeHeader btype b s.inflater).mono (by decide)).bind fun _ d => sound_raise (by decide) d)
    advances_id

theorem meaning_storedItem (len nlen : BitVec 16) : Meaning .stored [.truncated, .lenNlen] (storedItem len nlen) :=
  meaning_runInflater (fun _ _ => rfl)
    (fun s => .bind (.after (d' := { s.inflater with br := s.br.align }) (.mono (sound_takeBits (by decide) _) (by decide))
        BR.align_ok (List.prefix_refl _)) fun _ d =>
      .bind (.mono (sound_takeBits (by decide) d) (by decide)) fun _ d => sound_storedData _ d _)
    (advances_endBlock rfl)

/-! ### The framer's elements -/

theorem meaning_runFramer {α : Type} {r : State → Res GZ α} 
    (hr : ∀ s m, r (s.withIn m) = r s) (he : ∀ s e gz, r s = .raise e gz → e ∈ es) {g : State → State}
    (hg : ∀ s m, g (s.withIn m) = (g s).withIn m) (hs : ∀ (s : State) gz, State.Continues f s (g { s with gz := gz })) :
    Meaning f es fun s => runFramer (r s) s fun _ t => .next (g t) :=
  .of_run (r := r) (put := fun s gz => { s with gz := gz }) (g := fun _ => g) (fun s => runFramer_cases (r s) s _) hr
    (fun _ _ _ => rfl) (fun _ => hg) (fun s _ gz _ => hs s gz) fun s e gz h => ⟨he s e gz h, ⟨rfl, id, id, id⟩⟩

theorem parseLength_raise {n : Nat} {gz gz' : GZ} {e : ErrKind} (h : parseLength n gz = .raise e gz') : e = .tooShort := by
  unfold parseLength at h
  split at h <;> cases h
  rfl

theorem parseHeader_raise {d : List Byte} {gz gz' : GZ} {e : ErrKind} (h : parseHeader d gz = .raise e gz') :
    e ∈ [ErrKind.tooShort, .badHeader, .badFieldLen] := by
  rcases Res.bind_eq_raise.mp h with h | ⟨-, gz, -, h⟩
  · rw [parseLength_raise h]
    decide
  · rcases Res.bind_eq_raise.mp h with h | ⟨-, gz, -, h⟩
    · unfold parseMagic at h
      split at h <;> cases h
      decide
    · split at h <;> cases h
      decide

theorem meaning_fieldItem {mask : Byte} {past : State → Option Nat} (hp : ∀ s m, past (s.withIn m) = past s) :
    Meaning f [.badFieldLen] fun s => fieldItem mask (past s) s := by
  refine ⟨fun s t h => ?_, fun s t m _ h => ?_⟩
  · unfold fieldItem at h
    split at h <;> obtain rfl := Host.Outcome.next.inj h
    · exact .inl ⟨⟨rfl, id, id, id⟩, List.prefix_refl _, .inl ⟨rfl, rfl⟩⟩
    · exact .inr ⟨_, List.mem_cons_self, s, .refl s, rfl⟩
  · simp only [hp]
    unfold fieldItem at h ⊢
    split at h <;> obtain rfl := Host.Outcome.next.inj h <;> rfl

theorem footerError_kind {a b : Bool} {e : ErrKind} (h : footerError a b = some e) :
    e ∈ [ErrKind.crcMismatch, .sizeMismatch] := by
  cases a <;> cases b <;> simp only [footerError] at h
  · cases h
  · cases h; decide
  · cases h; decide
  · split at h <;> cases h <;> decide

theorem meaning_footerItem {crc size : State → Word32} (hc : ∀ s m, crc (s.withIn m) = crc s)
    (hz : ∀ s m, size (s.withIn m) = size s) {next : State → Expect} (hm : ∀ s m, next (s.withIn m) = next s)
    (hn : ∀ s t : State, t.phase = s.phase → t.expect = next s → Sequenced f s t) :
    Meaning f [.crcMismatch, .sizeMismatch] fun s => footerItem (crc s) (size s) (next s) s := by
  refine ⟨fun s t h => ?_, fun s t m _ h => ?_⟩
  · unfold footerItem at h
    split at h <;> obtain rfl := Host.Outcome.next.inj h
    · refine .inr ⟨_, footerError_kind ‹_›, _, ?_, rfl⟩
      exact ⟨rfl, id, id, id⟩
    · exact .inl ⟨⟨rfl, id, id, id⟩, List.prefix_refl _, hn s _ rfl rfl⟩
  · simp only [hc, hz, hm]
    unfold footerItem at h ⊢
    simp only [State.withIn] at h ⊢
    split at h <;> obtain rfl := Host.Outcome.next.inj h <;> rfl

/-! ### Unit operations -/

/-- A unit operation that changes the units alone continues the command. -/
theorem State.Continues.of_units {s t : State}
    (hfix : (t.cmd, t.status, t.inLen, t.outLen, t.inBuf, t.n, t.uops, t.inbox) =
      (s.cmd, s.status, s.inLen, s.outLen, s.inBuf, s.n, s.uops, s.inbox))
    (hseq : (t.phase, t.expect) = (s.phase, s.expect)) (hw : s.bw.Ok → t.bw.Ok) (hr : s.br.Ok → t.br.Ok)
    (ht : s.tk.Wf → t.tk.Wf) (ho : s.out <+: t.out) : State.Continues f s t :=
  ⟨⟨hfix, hw, hr, ht⟩, ho, .inl (Prod.mk.inj hseq)⟩

theorem meaning_writer {g : BW → BW} (hg : ∀ bw, bw.Ok → (g bw).Ok) : Meaning f es fun s => .next { s with bw := g s.bw } :=
  meaning_next (fun s => .of_units rfl rfl (hg s.bw) id id (List.prefix_refl _)) fun _ _ => rfl

theorem meaning_reader {g : BR → BR} (hg : ∀ br, br.Ok → (g br).Ok) : Meaning f es fun s => .next { s with br := g s.br } :=
  meaning_next (fun s => .of_units rfl rfl id (hg s.br) id (List.prefix_refl _)) fun _ _ => rfl

/-- A bit count above 16 and the like is refused, whatever the state. -/
theorem Meaning.guard {c : Prop} [Decidable c] {act : State → StepResult} (r : Refusal) (h : c → Meaning f es act) :
    Meaning f es fun s => if c then act s else .refused r := by
  by_cases hc : c
  · simpa only [if_pos hc] using h hc
  · simpa only [if_neg hc] using meaning_refused r

/-- What an operation on the reader keeps, and the one error it can raise. -/
structure SoundReader {α : Type} (r : BR → Res BR α) : Prop where
  ok : ∀ br, br.Ok → (r br).state.Ok
  error : ∀ br e br', r br = .raise e br' → e = .truncated

theorem soundReader_readBits {n : Nat} (hn : n ≤ 16) : SoundReader (·.readBits n) where
  ok br h := by
    rcases br.readBits_cases n with ⟨ha, he⟩ | ⟨-, he⟩ <;> simp only [he]
    · exact BR.fill_advance_ok h hn (Nat.le_refl n) ha
    · exact h
  error br e br' h := by
    rcases br.readBits_cases n with ⟨-, he⟩ | ⟨-, he⟩ <;> simp only [he] at h <;> cases h
    rfl

theorem soundReader_skipBits {n : Nat} (hn : n ≤ 16) : SoundReader (·.skipBits n) where
  ok br h := by
    rcases br.skipBits_cases n with ⟨ha, he⟩ | ⟨-, he⟩ <;> simp only [he]
    · exact BR.fill_advance_ok h hn (Nat.le_refl n) ha
    · exact h
  error br e br' h := by
    rcases br.skipBits_cases n with ⟨-, he⟩ | ⟨-, he⟩ <;> simp only [he] at h <;> cases h
    rfl

theorem soundReader_hdLitlen : SoundReader hdLitlen where
  ok br h := by
    rcases hdLitlen_cases br with ⟨ha, he⟩ | ⟨-, he⟩ <;> rw [he]
    · exact BR.fill_advance_ok h (by decide) (litlenDec9_peek br).2.2.2 ha
    · exact BR.fill_ok h (by decide)
  error br e br' h := by
    rcases hdLitlen_cases br with ⟨-, he⟩ | ⟨-, he⟩ <;> rw [he] at h <;> cases h
    rfl

theorem soundReader_hdDist : SoundReader hdDist where
  ok br h := by
    rcases hdDist_cases br with ⟨ha, he⟩ | ⟨-, he⟩ <;> rw [he]
    · exact BR.fill_advance_ok h (by decide) (Nat.le_refl 5) ha
    · exact h
  error br e br' h := by
    rcases hdDist_cases br with ⟨-, he⟩ | ⟨-, he⟩ <;> rw [he] at h <;> cases h
    rfl

theorem meaning_runReader {α : Type} {r : BR → Res BR α} (hr : SoundReader r) (answer : α → UopResult → UopResult) :
    Meaning f [.truncated] fun s => runReader (r s.br) s fun a t => .next { t with result := answer a t.result } := by
  refine .of_run (r := fun s => r s.br) (put := fun s br => { s with br := br })
    (g := fun a t => { t with result := answer a t.result }) (fun s => runReader_cases (r s.br) s _) (fun _ _ => rfl)
    (fun _ _ _ => rfl) (fun _ _ _ => rfl) (fun s a br h => ?_) fun s e br h => ⟨?_, rfl, id, fun hb => ?_, id⟩
  · refine .of_units rfl rfl id (fun hb => ?_) id (List.prefix_refl _)
    have := hr.ok s.br hb
    rwa [h] at this
  · rw [hr.error _ _ _ h]
    exact List.mem_cons_self
  · have := hr.ok s.br hb
    rwa [h] at this

theorem meaning_bwAppendbyte (b : Byte) : Meaning f es (execBwAppendbyte b) :=
  .ite (fun _ _ => Iff.rfl) (meaning_writer (g := (·.appendByte b)) fun _ h => BW.appendByte_ok h b) (meaning_refused _)

theorem meaning_brPeekbits (n : Nat) : Meaning f es (execBrPeekbits n) :=
  .guard _ fun hn => meaning_next (g := fun s => { s with br := s.br.fill n, result := .value (s.br.peekValue n) })
    (fun _ => .of_units rfl rfl id (fun h => BR.fill_ok h (le_of_bitCountOk hn)) id (List.prefix_refl _)) fun _ _ => rfl

theorem meaning_tkInsert (c : Nat) : Meaning f es (execTkInsert c) :=
  .ite (fun _ _ => Iff.rfl) (meaning_withInput fun d => meaning_next (g := fun s => { s with tk := s.tk.insert d })
    (fun _ => .of_units rfl rfl id id (TK.insert_wf d) (List.prefix_refl _)) fun _ _ => rfl) (meaning_refused _)

theorem meaning_tkFindmatch (q : Nat) : Meaning f es (execTkFindmatch q) :=
  meaning_withInput fun d => .ite (fun _ _ => Iff.rfl)
    (meaning_next (g := fun s => { s with tk := (findMatch d s.tk q).2, result := searchResult (findMatch d s.tk q).1 })
      (fun _ => .of_units rfl rfl id id (TK.insertUpto_wf d q) (List.prefix_refl _)) fun _ _ => rfl)
    (meaning_next (g := fun s =>
        { s with
          tk := (findMatch d s.tk q).2
          result := searchResult (Config.freeSearch s.free)
          free := s.free + 1 })
      (fun _ => .of_units rfl rfl id id (TK.insertUpto_wf d q) (List.prefix_refl _)) fun _ _ => rfl)

theorem meaning_tkTokenize : Meaning f es execTkTokenize :=
  meaning_withInput fun d => meaning_next (g := fun s => { s with tk := s.tk.tokenize d })
    (fun _ => .of_units rfl rfl id id (fun _ => TK.tokenize_wf d _) (List.prefix_refl _)) fun _ _ => rfl

theorem encodeBlockBits_ok {bw : BW} (h : bw.Ok) (ts : List Token) : (encodeBlockBits ts bw).Ok := by
  rw [encodeBlockBits, encodeEob]
  exact BW.align_ok (heLitlen_ok (blockTokens_ok h ts) 256)

theorem meaning_encBlock : Meaning f es execEncBlock := by
  refine .ite (fun _ _ => Iff.rfl) (meaning_refused _) (.ite (fun _ _ => Iff.rfl) ?_ (meaning_refused _))
  refine meaning_next (g := fun s => { s with bw := encodeBlockBits s.tk.queue s.bw, tk := { s.tk with queue := [] } })
    (fun s => ?_) fun s m => ?_
  · refine .of_units rfl rfl (fun h => ?_) id id (List.prefix_refl _)
    simpa only using encodeBlockBits_ok h s.tk.queue
  · simp only [State.withIn]

theorem meaning_decCopy (len dist : Nat) : Meaning f es (execDecCopy len dist) :=
  .ite (fun _ _ => Iff.rfl) (meaning_next (g := fun s => { s with out := copyMatch s.out dist len })
    (fun _ => .of_units rfl rfl id id id (prefix_copyMatch _ _ _)) fun _ _ => rfl) (meaning_refused _)

theorem meaning_gzWritehdr : Meaning f es execGzWritehdr :=
  .ite (fun _ _ => Iff.rfl) (meaning_writer (g := (·.appendBytes gzHeader)) fun _ h => BW.appendBytes_ok h _)
    (meaning_refused _)

theorem meaning_gzWriteftr : Meaning f es execGzWriteftr :=
  .ite (fun _ _ => Iff.rfl) (meaning_withInput fun d => meaning_next
      (g := fun s => { s with bw := s.bw.appendBytes (gzFooter d), crc := crcRun d })
      (fun _ => .of_units rfl rfl (fun h => BW.appendBytes_ok h _) id id (List.prefix_refl _)) fun _ _ => rfl)
    (meaning_refused _)

theorem meaning_gzParsehdr : Meaning f [.tooShort, .badHeader, .badFieldLen] execGzParsehdr :=
  .ite (fun _ _ => Iff.rfl) (meaning_raise (by decide)) (meaning_withInput fun d =>
    meaning_runFramer (r := fun s => parseHeader d s.gz) (g := id) (fun _ _ => rfl) (fun _ _ _ => parseHeader_raise)
      (fun _ _ => rfl) fun s gz => .of_units rfl rfl id id id (List.prefix_refl _))

theorem meaning_gzCheckftr : Meaning f [.crcMismatch, .sizeMismatch] execGzCheckftr := by
  refine .ite (fun _ _ => Iff.rfl) (meaning_refused _) (meaning_withInput fun d => ?_)
  exact meaning_footerItem (next := State.expect) (fun _ _ => rfl) (fun _ _ => rfl) (fun _ _ => rfl) fun s t hp he => .inl ⟨hp, he⟩

end Items

/-! ### The dispatch -/

theorem execCommand_cases {i : Instr} (hi : i.format = .cmd) {s t : State} (h : exec i s = .next t) :
    t = s ∨ s.busy = false ∧ (i = .compress ∧ t = { startCommand s with phase := .cTokenize, uops := compressUops } ∨
      i = .decompress ∧ t = { startCommand s with phase := .dHeader, expect := .gzhdr }) := by
  have hidle {r : StepResult} (h : whenIdle s r = .next t) : s.busy = false ∧ r = .next t := by
    unfold whenIdle at h
    split at h
    · cases h
    · exact ⟨Bool.eq_false_of_not_eq_true ‹_›, h⟩
  cases i
  case cmdNone => exact .inl (Host.Outcome.next.inj (hidle h).2).symm
  case compress => exact .inr ⟨(hidle h).1, .inl ⟨rfl, (Host.Outcome.next.inj (hidle h).2).symm⟩⟩
  case decompress => exact .inr ⟨(hidle h).1, .inr ⟨rfl, (Host.Outcome.next.inj (hidle h).2).symm⟩⟩
  case cmdReserved => cases h
  all_goals exact nomatch hi

theorem meaning_uop {i : Instr} (hi : i.format = .uop) : Meaning .uop i.raises (exec i) := by
  cases i
  case bwInit => exact meaning_writer (g := fun _ => BW.empty) fun _ _ => BW.empty_ok
  case bwWritebits v n => exact .guard _ fun _ => meaning_writer (g := (·.writeBits v n)) fun _ h => BW.writeBits_ok h v n
  case bwAlign => exact meaning_writer fun _ => BW.align_ok
  case bwAppendbyte b => exact meaning_bwAppendbyte b
  case brInit src => exact meaning_reader (g := fun _ => BR.init src) fun _ _ => BR.init_ok src
  case brReadbits n =>
    exact .guard _ fun hn => meaning_runReader (soundReader_readBits (le_of_bitCountOk hn)) fun v _ => .value v
  case brPeekbits n => exact meaning_brPeekbits n
  case brAlign => exact meaning_reader fun _ => BR.align_ok
  case brSkipbits n =>
    exact .guard _ fun hn => meaning_runReader (soundReader_skipBits (le_of_bitCountOk hn)) fun _ r => r
  case crcInit | crcUpdate | crcFinal =>
    exact meaning_next (fun _ => .of_units rfl rfl id id id (List.prefix_refl _)) fun _ _ => rfl
  case heLitlen sym => exact .guard _ fun _ => meaning_writer (g := heLitlen sym) fun _ h => heLitlen_ok h sym
  case heDist d => exact .guard _ fun _ => meaning_writer (g := heDist d) fun _ h => heDist_ok h d
  case hdLitlen => exact meaning_runReader soundReader_hdLitlen fun v _ => .value v
  case hdDist => exact meaning_runReader soundReader_hdDist fun v _ => .value v
  case tkInsert c => exact meaning_tkInsert c
  case tkFindmatch q => exact meaning_tkFindmatch q
  case tkTokenize => exact meaning_tkTokenize
  case encBlock => exact meaning_encBlock
  case encLiteral b => exact meaning_writer (g := encodeLiteral b) fun _ h => encodeLiteral_ok h b
  case encMatch len dist =>
    exact .guard _ fun _ => meaning_writer (g := encodeMatch len dist) fun _ h => encodeMatch_ok h len dist
  case encEob => exact meaning_writer fun _ h => BW.align_ok (heLitlen_ok h 256)
  case decInflate => exact meaning_runInflater (fun _ _ => rfl) (fun s => sound_inflateLoop s.inflater _) advances_id
  case decBlkhdr => exact meaning_runInflater (fun _ _ => rfl) (fun s => sound_readBlockHeader s.inflater) advances_id
  case decStored => exact meaning_runInflater (fun _ _ => rfl) (fun s => sound_readStored s.inflater) advances_id
  case decFixed => exact meaning_runInflater (fun _ _ => rfl) (fun s => sound_readFixedLoop s.inflater _) advances_id
  case decCopy len dist => exact meaning_decCopy len dist
  case gzWritehdr => exact meaning_gzWritehdr
  case gzWriteftr => exact meaning_gzWriteftr
  case gzParsehdr => exact meaning_gzParsehdr
  case gzCheckftr => exact meaning_gzCheckftr
  all_goals exact nomatch hi

end Sys2Proof.Machine
end

section
/-! The elements of a member in the dispatch, and what follows for every instruction and every step: `IN` is read only, `OUT` grows
at its end, `STATUS` changes only as listed, and the invariant is kept. -/

namespace Sys2Proof.Machine

theorem meaning_gzhdr (flg : Byte) (mtime : BitVec 32) (xfl os : Byte) :
    Meaning .gzhdr [.tooShort] (execGzhdr flg mtime xfl os) := by
  refine meaning_runFramer (r := fun s => (parseLength s.n s.gz).bind fun _ gz => .ok () (acceptHeader flg gz))
    (g := fun t => { t with expect := .gzopt }) (fun _ _ => rfl) (fun s e gz h => ?_) (fun _ _ => rfl) fun s gz => ?_
  · rcases Res.bind_eq_raise.mp h with h | ⟨-, gz', -, h⟩
    · exact List.mem_singleton.mpr (parseLength_raise h)
    · cases h
  · exact ⟨⟨rfl, id, id, id⟩, List.prefix_refl _, .inr ⟨nofun, fun hp => ⟨hp ▸ nofun, hp ▸ rfl, hp⟩⟩⟩

theorem meaning_gzftr (crc size : Word32) : Meaning .gzftr [.crcMismatch, .sizeMismatch] (execGzftr crc size) :=
  meaning_footerItem (crc := fun _ => crc) (size := fun _ => size) (next := fun _ => .nothing) (fun _ _ => rfl)
    (fun _ _ => rfl) (fun _ _ => rfl) fun s t hp he => .inr ⟨nofun, fun h => by
      rw [hp, he, h]
      exact ⟨nofun, rfl, nofun, nofun⟩⟩

/-- The meaning of every instruction but the host's commands. -/
theorem exec_meaning {i : Instr} (hi : i.format ≠ .cmd) : Meaning i.format i.raises (exec i) := by
  cases i
  case len257 | len258 | len259 | len260 | len261 | len262 | len263 | len264 | len285 =>
    exact meaning_lengthItem (by decide) 0
  case len265 e | len266 e | len267 e | len268 e | len269 e | len270 e | len271 e | len272 e | len273 e | len274 e |
      len275 e | len276 e | len277 e | len278 e | len279 e | len280 e | len281 e | len282 e | len283 e | len284 e =>
    exact meaning_lengthItem (by decide) e.toNat
  case dist0 | dist1 | dist2 | dist3 => exact meaning_distanceItem _ 0
  case dist4 x | dist5 x | dist6 x | dist7 x | dist8 x | dist9 x | dist10 x | dist11 x | dist12 x | dist13 x | dist14 x |
      dist15 x | dist16 x | dist17 x | dist18 x | dist19 x | dist20 x | dist21 x | dist22 x | dist23 x | dist24 x |
      dist25 x | dist26 x | dist27 x | dist28 x | dist29 x => exact meaning_distanceItem _ x.toNat
  case reservedDist30 | reservedDist31 => exact meaning_reservedDistItem
  case blkStored f => exact meaning_blockItem 0 f rfl
  case blkFixed f => exact meaning_blockItem 1 f rfl
  case blkDynamic f | blkReserved f => exact meaning_badBlockItem _ f
  case storedBody len nlen => exact meaning_storedItem len nlen
  case gzhdr flg mtime xfl os => exact meaning_gzhdr flg mtime xfl os
  case gzoptFextra | gzoptFname | gzoptFcomment => exact meaning_withInput fun d => meaning_fieldItem fun _ _ => rfl
  case gzoptFhcrc => exact meaning_fieldItem fun _ _ => rfl
  case gzftr crc size => exact meaning_gzftr crc size
  case eob => exact meaning_eobItem
  case reservedLitlen286 | reservedLitlen287 => exact meaning_reservedLitlenItem (by decide)
  case cmdNone | compress | decompress | cmdReserved => exact absurd rfl hi
  case bwInit | bwWritebits | bwAlign | bwAppendbyte | brInit | brReadbits | brPeekbits | brAlign | brSkipbits | crcInit |
      crcUpdate | crcFinal | heLitlen | heDist | hdLitlen | hdDist | tkInsert | tkFindmatch | tkTokenize | encBlock |
      encLiteral | encMatch | encEob | decInflate | decBlkhdr | decStored | decFixed | decCopy | gzWritehdr | gzWriteftr |
      gzParsehdr | gzCheckftr => exact meaning_uop rfl
  -- The 256 literals.
  all_goals exact meaning_literalItem _

/-! ### What stays of the state before -/

section Keeps

variable {s t : State}

theorem State.Keeps.cmd (h : s.Keeps t) : t.cmd = s.cmd := congrArg (fun x => x.1) h.fixed
theorem State.Keeps.status (h : s.Keeps t) : t.status = s.status := congrArg (fun x => x.2.1) h.fixed
theorem State.Keeps.inLen (h : s.Keeps t) : t.inLen = s.inLen := congrArg (fun x => x.2.2.1) h.fixed
theorem State.Keeps.outLen (h : s.Keeps t) : t.outLen = s.outLen := congrArg (fun x => x.2.2.2.1) h.fixed
theorem State.Keeps.inBuf (h : s.Keeps t) : t.inBuf = s.inBuf := congrArg (fun x => x.2.2.2.2.1) h.fixed
theorem State.Keeps.uops (h : s.Keeps t) : t.uops = s.uops := congrArg (fun x => x.2.2.2.2.2.2.1) h.fixed
theorem State.Keeps.busy (h : s.Keeps t) : t.busy = s.busy := congrArg (BitVec.getLsbD · 0) h.status

end Keeps

/-- Settles O16: every instruction but a command keeps `STATUS` or fails with an error of its list (`exec_meaning`). -/
theorem onlyTheNamedOperationsRaise : Obligations.OnlyTheNamedOperationsRaise := by
  intro i s t h
  by_cases hi : i.format = .cmd
  · rcases execCommand_cases hi h with rfl | ⟨-, ⟨rfl, rfl⟩ | ⟨rfl, rfl⟩⟩
    · exact .inl rfl
    · exact .inr (.inr ⟨.inl rfl, rfl⟩)
    · exact .inr (.inr ⟨.inr rfl, rfl⟩)
  · rcases (exec_meaning hi).outcome s t h with hc | ⟨e, he, u, -, rfl⟩
    · exact .inl hc.keeps.status
    · exact .inr (.inl ⟨e, he, raiseError_failed e u⟩)

/-! ### Steps of the core -/

/-- The format from which the expected element is decoded (log entry 3). -/
def formatOf (e : Expect) : Format :=
  match e with
  | .nothing => .uop
  | .gzhdr => .gzhdr
  | .gzopt => .gzopt
  | .blkhdr => .blkhdr
  | .stored => .stored
  | .litlen => .litlen
  | .dist => .dist
  | .gzftr => .gzftr

/-- The state in which the instruction that a step has fetched runs, and its format. -/
inductive Entry (s : State) : Format → State → Prop
  | uop {w : Nat} {rest : List Nat} (hu : s.uops = w :: rest) : Entry s .uop (startUop w rest s)
  | element (hb : s.busy = true) (hu : s.uops = []) (he : s.expect ≠ .nothing) : Entry s (formatOf s.expect) s
  | payload (hb : s.busy = true) (hu : s.uops = []) (he : s.expect = .gzopt) : Entry s .uop (enterInflate s)

/-- What an instruction of a format leaves of a state: the command goes on or ends with an error. -/
def Leaves (f : Format) (u t : State) : Prop := State.Continues f u t ∨ ∃ e v, u.Keeps v ∧ t = raiseError e v

theorem exec_leaves {i : Instr} {u t : State} (hi : i.format ≠ .cmd) (h : exec i u = .next t) : Leaves i.format u t :=
  ((exec_meaning hi).outcome u t h).imp_right fun ⟨e, _, v, hv⟩ => ⟨e, v, hv⟩

/-- A word that is fetched runs as its instruction, or ends the command with an error. -/
theorem fetchWord_cases {f : Format} {w : Nat} {s u t : State} (h : runFetched s (fetchWord f w u) = .next t) :
    (∃ i, i.format = f ∧ exec i u = .next t) ∨ ∃ e v, u.Keeps v ∧ t = raiseError e v := by
  unfold fetchWord at h
  split at h
  · exact .inl ⟨_, (decodedInstructionsFitTheirFormat f w _ ‹_›).1, h⟩
  · rename_i r hd
    cases r
    case badMagic =>
      obtain rfl : raiseError _ _ = t := Host.Outcome.next.inj h
      exact .inr ⟨_, { u with gz := { u.gz with endPos := u.n - Config.footerLen } }, ⟨rfl, id, id, id⟩, rfl⟩
    case bitCount | symbolRange | uopCode | noOptionalField => cases h

theorem fetchWord_leaves {f : Format} {w : Nat} {s u t : State} (hf : f ≠ .cmd)
    (h : runFetched s (fetchWord f w u) = .next t) : Leaves f u t := by
  rcases fetchWord_cases h with ⟨i, rfl, hi⟩ | hr
  · exact exec_leaves hf hi
  · exact .inr hr

theorem fetchInput_next {s t : State} {k : List Byte → Fetched} (h : runFetched s (fetchInput s k) = .next t) :
    ∃ d, s.input = some d ∧ runFetched s (k d) = .next t := by
  unfold fetchInput at h
  split at h
  · exact ⟨_, ‹_›, h⟩
  · cases h

theorem fetchElement_leaves {s t : State} (hb : s.busy = true) (hu : s.uops = []) (he : s.expect ≠ .nothing)
    (h : runFetched s (fetchElement s) = .next t) : ∃ f u, Entry s f u ∧ Leaves f u t := by
  have helement {f : Format} (hf : formatOf s.expect = f) (hl : Leaves f s t) : ∃ f u, Entry s f u ∧ Leaves f u t :=
    ⟨_, s, .element hb hu he, hf ▸ hl⟩
  unfold fetchElement at h
  cases hx : s.expect <;> simp only [hx] at h helement he
  case nothing => exact absurd rfl he
  case gzhdr =>
    split at h
    · exact helement rfl (.inr ⟨_, s, .refl s, (Host.Outcome.next.inj h).symm⟩)
    · obtain ⟨d, -, h⟩ := fetchInput_next h
      exact helement rfl (fetchWord_leaves nofun h)
  case gzopt =>
    split at h
    · rename_i i hd
      have hi := (decodedInstructionsFitTheirFormat .gzopt _ i hd).1
      have hl := exec_leaves (by rw [hi]; nofun) h
      rw [hi] at hl
      exact helement rfl hl
    · obtain ⟨d, -, h⟩ := fetchInput_next h
      exact ⟨_, _, .payload hb hu hx, exec_leaves (i := .brInit (payload d s.gz)) nofun h⟩
  case gzftr =>
    split at h
    · cases h
    · obtain ⟨d, -, h⟩ := fetchInput_next h
      exact helement rfl (fetchWord_leaves nofun h)
  case blkhdr | stored | litlen | dist => exact helement rfl (fetchWord_leaves nofun h)

/-- What a step of the core can do. -/
theorem coreStep_cases {s t : State} (h : coreStep s = .next t) :
    (∃ f u, Entry s f u ∧ Leaves f u t) ∨
      (s.busy = true ∧ s.uops = [] ∧ s.expect = .nothing ∧ t = finishCommand s) ∨
      (s.busy = false ∧ s.uops = [] ∧ t = s) := by
  unfold coreStep fetch at h
  split at h
  · exact .inl ⟨_, _, .uop ‹_›, fetchWord_leaves nofun h⟩
  · rename_i hu
    split at h
    · by_cases he : s.expect = .nothing
      · rw [fetchElement, he] at h
        exact .inr (.inl ⟨‹_›, hu, he, (Host.Outcome.next.inj h).symm⟩)
      · exact .inl (fetchElement_leaves ‹_› hu he h)
    · exact .inr (.inr ⟨Bool.eq_false_of_not_eq_true ‹_›, hu, (Host.Outcome.next.inj h).symm⟩)

theorem step_eq_coreStep {s : State} (hin : s.inbox = []) : step s = coreStep s := by
  simp only [step, hin]

/-! ### `IN` is read only (R25) -/

theorem fetchWord_memory {f : Format} {w : Nat} {s u t : State} {m : Memory} (hf : f ≠ .cmd)
    (hm : m.readBytes 0 u.n = u.inBuf.readBytes 0 u.n) (h : runFetched s (fetchWord f w u) = .next t) :
    runFetched (s.withIn m) (fetchWord f w (u.withIn m)) = .next (t.withIn m) := by
  unfold fetchWord at h ⊢
  split at h
  · rename_i i hd
    obtain ⟨rfl, -⟩ := decodedInstructionsFitTheirFormat f w i hd
    exact (exec_meaning hf).memory u t m hm h
  · rename_i r hd
    cases r
    case badMagic =>
      obtain rfl : raiseError _ _ = t := Host.Outcome.next.inj h
      rfl
    case bitCount | symbolRange | uopCode | noOptionalField => cases h

section Memory

variable {s t : State} {m : Memory} (hm : m.readBytes 0 s.n = s.inBuf.readBytes 0 s.n)
include hm

theorem fetchInput_withIn {d : List Byte} (hd : s.input = some d) (k : List Byte → Fetched) :
    fetchInput (s.withIn m) k = k d :=
  fetchInput_eq (s := s.withIn m) (hm.trans hd) k

theorem fetchElement_memory (h : runFetched s (fetchElement s) = .next t) :
    runFetched (s.withIn m) (fetchElement (s.withIn m)) = .next (t.withIn m) := by
  have hexp : (s.withIn m).expect = s.expect := rfl
  have hn : (s.withIn m).n = s.n := rfl
  have hgz : (s.withIn m).gz = s.gz := rfl
  unfold fetchElement at h ⊢
  rw [hexp, hn, hgz]
  cases hx : s.expect <;> simp only [hx] at h ⊢
  case nothing =>
    obtain rfl : finishCommand s = t := Host.Outcome.next.inj h
    rfl
  case gzhdr =>
    split at h
    · obtain rfl : raiseError _ _ = t := Host.Outcome.next.inj h
      rw [if_pos ‹_›]
      rfl
    · obtain ⟨d, hd, h⟩ := fetchInput_next h
      rw [if_neg ‹_›, fetchInput_withIn hm hd]
      exact fetchWord_memory nofun hm h
  case gzopt =>
    split at h
    · rename_i i hd
      have hi := (decodedInstructionsFitTheirFormat .gzopt _ i hd).1
      exact (exec_meaning (by rw [hi]; nofun)).memory s t m hm h
    · obtain ⟨d, hd, h⟩ := fetchInput_next h
      rw [fetchInput_withIn hm hd]
      exact (exec_meaning (i := .brInit (payload d s.gz)) nofun).memory (enterInflate s) t m hm h
  case gzftr =>
    split at h
    · cases h
    · obtain ⟨d, hd, h⟩ := fetchInput_next h
      rw [if_neg ‹_›, fetchInput_withIn hm hd]
      exact fetchWord_memory nofun hm h
  case blkhdr | stored | litlen | dist => exact fetchWord_memory nofun hm h

/-- Two memories that agree below `n` give the same step. -/
theorem coreStep_memory (h : coreStep s = .next t) : coreStep (s.withIn m) = .next (t.withIn m) := by
  have huops : (s.withIn m).uops = s.uops := rfl
  have hbusy : (s.withIn m).busy = s.busy := rfl
  unfold coreStep fetch at h ⊢
  rw [huops, hbusy]
  cases hu : s.uops with
  | cons w rest =>
    simp only [hu] at h ⊢
    exact fetchWord_memory (u := startUop w rest s) nofun hm h
  | nil =>
    simp only [hu] at h ⊢
    split at h
    · rw [if_pos ‹_›]
      exact fetchElement_memory hm h
    · rw [if_neg ‹_›]
      exact congrArg (fun t : State => Host.Outcome.next (t.withIn m)) (Host.Outcome.next.inj h)

end Memory

theorem Entry.keeps_host {s u : State} {f : Format} (h : Entry s f u) :
    u.inBuf = s.inBuf ∧ u.inLen = s.inLen ∧ u.cmd = s.cmd := by
  cases h <;> exact ⟨rfl, rfl, rfl⟩

theorem Leaves.keeps_host {u t : State} {f : Format} (h : Leaves f u t) :
    t.inBuf = u.inBuf ∧ t.inLen = u.inLen ∧ t.cmd = u.cmd := by
  rcases h with hc | ⟨e, v, hk, rfl⟩
  · exact ⟨hc.keeps.inBuf, hc.keeps.inLen, hc.keeps.cmd⟩
  · exact ⟨hk.inBuf, hk.inLen, hk.cmd⟩

/-- Settles O14: no meaning writes `IN` or `IN_LEN`, and each reads `IN` only as the bytes below `n`. -/
theorem inputIsReadOnly : Obligations.InputIsReadOnly := by
  refine ⟨fun i s t h => ?_, fun s t hin h => ?_, fun s t m hm hin h => ?_⟩
  · by_cases hi : i.format = .cmd
    · rcases execCommand_cases hi h with rfl | ⟨-, ⟨-, rfl⟩ | ⟨-, rfl⟩⟩ <;> exact ⟨rfl, rfl⟩
    · obtain ⟨hbuf, hlen, -⟩ := (exec_leaves hi h).keeps_host
      exact ⟨hbuf, hlen⟩
  · rw [step_eq_coreStep hin] at h
    rcases coreStep_cases h with ⟨f, u, hentry, hleaves⟩ | ⟨-, -, -, rfl⟩ | ⟨-, -, rfl⟩
    · obtain ⟨hbuf, hlen, hcmd⟩ := hleaves.keeps_host
      obtain ⟨hbuf', hlen', hcmd'⟩ := hentry.keeps_host
      exact ⟨hbuf.trans hbuf', hlen.trans hlen', hcmd.trans hcmd'⟩
    · exact ⟨rfl, rfl, rfl⟩
    · exact ⟨rfl, rfl, rfl⟩
  · rw [step_eq_coreStep hin] at h
    exact (step_eq_coreStep (s := s.withIn m) hin).trans (coreStep_memory hm h)

/-! ### The invariant (R23, R27, R28, R40, R43) -/

theorem statusOk_error (e : ErrKind) {s : State} (hs : s.status = statusError e) : s.StatusOk := by
  simp only [State.StatusOk, State.busy, State.done, State.err, State.errCode, hs]
  refine ⟨?_, ?_, ?_, ?_, fun _ => ⟨e, ?_⟩⟩ <;> cases e <;> decide

theorem statusOk_success {s : State} (hs : s.status = statusSuccess) : s.StatusOk := by
  simp only [State.StatusOk, State.busy, State.done, State.err, State.errCode, hs]
  exact ⟨by decide, by decide, by decide, by decide, fun h => absurd h (by decide)⟩

theorem statusSuccess_not_busy : statusSuccess.getLsbD 0 = false := by decide

theorem statusError_err (e : ErrKind) : (statusError e).getLsbD 2 = true := by cases e <;> decide

theorem statusSuccess_no_err : ¬statusSuccess.getLsbD 2 = true := by decide

theorem statusOk_busy {s : State} (hs : s.status = statusBusy) : s.StatusOk := by
  simp only [State.StatusOk, State.busy, State.done, State.err, State.errCode, hs]
  exact ⟨by decide, by decide, by decide, by decide, fun h => absurd h (by decide)⟩

theorem statusOk_of_eq {s t : State} (h : s.StatusOk) (hs : t.status = s.status) : t.StatusOk := by
  simpa only [State.StatusOk, State.busy, State.done, State.err, State.errCode, hs] using h

/-- With no command running the sequencer is idle, and may list anything. -/
theorem sequencerOk_idle {s : State} (hb : s.busy = false) (hp : s.phase = .idle) (he : s.expect = .nothing) :
    s.SequencerOk :=
  ⟨⟨fun _ => hb, fun _ => hp⟩, by rw [hp, he]; exact ⟨nofun, nofun⟩, fun h => absurd (hb.symm.trans h) nofun⟩

/-- In a phase of `COMPRESS` no element is expected. -/
theorem expect_of_compressing {p : Phase} {e : Expect} (hp : p.compressing = true) (h : expectFits p e) : e = .nothing := by
  cases e
  case nothing => rfl
  all_goals subst h; exact absurd hp (by decide)

theorem expectFits_of_compressing {p : Phase} (hp : p.compressing = true) : expectFits p .nothing := by
  constructor <;> rintro rfl <;> exact absurd hp (by decide)

/-- An element is expected in its phase alone. -/
theorem phase_of_expectFits {p : Phase} {e : Expect} (he : e ≠ .nothing) (h : expectFits p e) : p = phaseOf (formatOf e) := by
  cases e
  case nothing => exact absurd rfl he
  all_goals exact h

theorem sequencePhase_compressing (w : Nat) {p : Phase} (hp : p.compressing = true) :
    (sequencePhase w p).compressing = true := by
  unfold sequencePhase
  split
  · rfl
  · split
    · rfl
    · split
      · rfl
      · exact hp

section Inv

variable {s t u v : State} {f : Format}

/-- A unit operation starts in a state that meets the invariant. -/
theorem State.Inv.startUop (h : s.Inv) {w : Nat} {rest : List Nat} (hu : s.uops = w :: rest) :
    (startUop w rest s).Inv := by
  obtain ⟨hmem, hhead, hprev, hw, hr, hst, ⟨hidle, hfits, hseq⟩, hlen⟩ := h
  refine ⟨hmem, hhead, hprev, hw, hr, hst, ?_, hlen⟩
  by_cases hb : s.busy = true
  · obtain ⟨hsuf, hcomp⟩ := hseq hb
    have hp := hcomp (hu ▸ nofun)
    have hp' := sequencePhase_compressing w hp
    have hphase : (Machine.startUop w rest s).phase = sequencePhase w s.phase := if_pos hb
    refine ⟨⟨fun hi => ?_, fun hn => absurd (hb.symm.trans hn) nofun⟩, ?_, fun _ => ⟨?_, fun _ => hphase ▸ hp'⟩⟩
    · rw [hphase] at hi
      exact absurd (hi ▸ hp') (by decide)
    · rw [hphase, show (Machine.startUop w rest s).expect = .nothing from expect_of_compressing hp hfits]
      exact expectFits_of_compressing hp'
    · exact (hu ▸ List.suffix_cons w rest).trans hsuf
  · have hphase : (Machine.startUop w rest s).phase = s.phase := if_neg hb
    refine ⟨?_, ?_, fun hb' => absurd hb' hb⟩
    · rw [hphase]
      exact hidle
    · rw [hphase]
      exact hfits

theorem Entry.inv (he : Entry s f u) (h : s.Inv) : u.Inv := by
  cases he with
  | uop hu => exact h.startUop hu
  | element => exact h
  | payload hb hu he =>
    obtain ⟨hmem, hhead, hprev, hw, hr, hst, ⟨hidle, hfits, hseq⟩, hlen⟩ := h
    exact ⟨hmem, hhead, hprev, hw, hr, hst,
      ⟨⟨nofun, fun hn => absurd (hb.symm.trans hn) nofun⟩, rfl, fun _ => ⟨(hseq hb).1, fun hne => absurd hu hne⟩⟩, hlen⟩

/-- An element runs in its phase, and no unit operation is listed. -/
theorem Entry.phase (he : Entry s f u) (h : s.Inv) (hf : phaseOf f ≠ .idle) : u.phase = phaseOf f ∧ u.uops = [] := by
  cases he with
  | uop => exact absurd rfl hf
  | element hb hu he => exact ⟨phase_of_expectFits he h.sequencer.2.1, hu⟩
  | payload => exact absurd rfl hf

theorem State.Inv.continues (h : u.Inv) (hf : phaseOf f ≠ .idle → u.phase = phaseOf f ∧ u.uops = [])
    (hc : State.Continues f u t) : t.Inv := by
  obtain ⟨hmem, hhead, hprev, hw, hr, hst, ⟨hidle, hfits, hseq⟩, hlen⟩ := h
  obtain ⟨hk, hout, hs⟩ := hc
  obtain ⟨hhead', hprev'⟩ := hk.tables ⟨hhead, hprev⟩
  refine ⟨hk.inBuf ▸ hmem, hhead', hprev', hk.writer hw, hk.reader hr, statusOk_of_eq hst hk.status, ?_,
    hk.outLen ▸ hlen.trans hout.length_le⟩
  rcases hs with ⟨hp, he⟩ | ⟨hne, hs⟩
  · exact ⟨by rw [hp, hk.busy]; exact hidle, by rw [hp, he]; exact hfits, by rw [hk.busy, hk.uops, hp]; exact hseq⟩
  · obtain ⟨hphase, hnone⟩ := hf hne
    obtain ⟨hnidle, -, hfits'⟩ := hs hphase
    have hbusy : u.busy = true := Bool.eq_true_of_not_eq_false fun hb => hne (hphase ▸ hidle.mpr hb)
    rw [hnone] at hseq
    refine ⟨⟨fun hi => absurd hi hnidle, fun hb => ?_⟩, hfits', fun _ => ?_⟩
    · rw [hk.busy, hbusy] at hb
      cases hb
    · rw [hk.uops, hnone]
      exact ⟨(hseq hbusy).1, fun hne => absurd rfl hne⟩

theorem State.Inv.raise (h : u.Inv) (hk : u.Keeps v) (e : ErrKind) : (raiseError e v).Inv := by
  obtain ⟨hhead, hprev⟩ := hk.tables ⟨h.head, h.prev⟩
  exact ⟨hk.inBuf ▸ h.memory, hhead, hprev, hk.writer h.writer, hk.reader h.reader, statusOk_error e rfl,
    sequencerOk_idle (statusError_not_busy e) rfl rfl, Nat.zero_le _⟩

theorem State.Inv.finish (h : s.Inv) : (finishCommand s).Inv :=
  ⟨h.memory, h.head, h.prev, h.writer, h.reader, statusOk_success rfl, sequencerOk_idle statusSuccess_not_busy rfl rfl,
    Nat.le_refl _⟩

theorem State.Inv.coreStep (h : s.Inv) (hs : coreStep s = .next t) : t.Inv := by
  rcases coreStep_cases hs with ⟨f, u, hentry, hleaves⟩ | ⟨-, -, -, rfl⟩ | ⟨-, -, rfl⟩
  · rcases hleaves with hc | ⟨e, v, hk, rfl⟩
    · exact (hentry.inv h).continues (hentry.phase h) hc
    · exact (hentry.inv h).raise hk e
  · exact h.finish
  · exact h

/-- A command that starts leaves the units as initialised. -/
theorem State.Inv.startCommand (h : s.Inv) {p : Phase} {x : Expect} {uops : List Nat} (hp : p ≠ .idle)
    (hx : expectFits p x) (hsuf : uops <:+ compressUops) (hc : uops ≠ [] → p.compressing = true) :
    ({ startCommand s with phase := p, expect := x, uops := uops } : State).Inv :=
  ⟨h.memory, rfl, rfl, BW.empty_ok, BR.init_ok [], statusOk_busy rfl,
    ⟨⟨fun hi => absurd hi hp, fun hb => absurd (statusBusy_busy.symm.trans hb) nofun⟩, hx, fun _ => ⟨hsuf, hc⟩⟩, Nat.zero_le _⟩

theorem State.Inv.command (h : s.Inv) {i : Instr} (hi : i.format = .cmd) (hs : exec i s = .next t) : t.Inv := by
  rcases execCommand_cases hi hs with rfl | ⟨-, ⟨-, rfl⟩ | ⟨-, rfl⟩⟩
  · exact h
  · exact h.startCommand (x := .nothing) nofun ⟨nofun, nofun⟩ (List.suffix_refl _) fun _ => rfl
  · exact h.startCommand (uops := []) nofun rfl List.nil_suffix fun hne => absurd rfl hne

theorem State.Inv.reset (s : State) : (hostReset s).Inv :=
  ⟨rfl, rfl, rfl, BW.empty_ok, BR.init_ok [], reset_statusOk, reset_sequencerOk, Nat.zero_le _⟩

/-- Writes of the host to `IN` and its registers touch nothing the invariant speaks of but the form of the memory. -/
theorem State.Inv.host (h : s.Inv) {m : Memory} (hm : m.wf = true) (cmd : BitVec 2) (n : Nat) (inbox : List HostEvent) :
    ({ s with inBuf := m, cmd := cmd, inLen := n, inbox := inbox } : State).Inv :=
  ⟨hm, h.head, h.prev, h.writer, h.reader, h.status, h.sequencer, h.outLen⟩

theorem hostWrite_next (h : hostWrite s t = .next u) : u = t := by
  unfold hostWrite at h
  split at h
  · cases h
  · exact (Host.Outcome.next.inj h).symm

theorem hostRead_next (h : hostRead s = .next u) : u = s := by
  unfold hostRead at h
  split at h
  · exact (Host.Outcome.next.inj h).symm
  · cases h

theorem State.Inv.hostStep (h : s.Inv) (e : HostEvent) (hs : hostStep e s = .next t) : t.Inv := by
  cases e with
  | writeIn a b =>
    rw [hostWrite_next hs]
    exact h.host (Memory.wf_write a b h.memory) s.cmd s.inLen s.inbox
  | writeInLen n =>
    rw [hostWrite_next hs]
    exact h.host h.memory s.cmd n s.inbox
  | writeCmd c =>
    have hcmd := h.host h.memory c s.inLen s.inbox
    rcases fetchWord_cases hs with ⟨i, hi, hs⟩ | ⟨e, v, hk, rfl⟩
    · exact hcmd.command hi hs
    · exact hcmd.raise hk e
  | readStatus | readIn => exact Host.Outcome.next.inj hs ▸ h
  | readOutLen | readOut => exact hostRead_next hs ▸ h
  | reset => exact Host.Outcome.next.inj hs ▸ .reset s
  | turn => exact h.coreStep hs

end Inv

/-- Settles O8: by the host's events, and for the core by what a step can do (`coreStep_cases`). -/
theorem stepKeepsInvariant : Obligations.StepKeepsInvariant := by
  intro s t h hs
  cases hin : s.inbox with
  | nil => exact h.coreStep ((step_eq_coreStep hin).symm.trans hs)
  | cons e rest =>
    rw [step, hin] at hs
    exact (h.host h.memory s.cmd s.inLen rest).hostStep e hs

/-! ### `OUT` is append-only (R26) -/

theorem Entry.out {s u : State} {f : Format} (h : Entry s f u) :
    u.out = s.out ∧ u.outLen = s.outLen ∧ u.busy = s.busy := by
  cases h <;> exact ⟨rfl, rfl, rfl⟩

theorem guard_next {c : Prop} [Decidable c] {a : StepResult} {r : Refusal} {t : State}
    (h : (if c then a else .refused r) = .next t) : c ∧ a = .next t := by
  split at h
  · exact ⟨‹_›, h⟩
  · cases h

theorem withInput_next {s t : State} {k : List Byte → StepResult} (h : withInput s k = .next t) :
    ∃ d, s.input = some d ∧ k d = .next t := by
  unfold withInput at h
  split at h
  · exact ⟨_, ‹_›, h⟩
  · cases h

theorem execEncBlock_next {s t : State} (h : execEncBlock s = .next t) :
    s.bw.cnt = 0 ∧ t.bw = encodeBlockBits s.tk.queue s.bw ∧ t.phase = s.phase := by
  by_cases hc : s.bw.cnt = 0
  · rw [execEncBlock, if_neg (not_not_intro hc)] at h
    obtain ⟨-, h⟩ := guard_next h
    rw [← Host.Outcome.next.inj h]
    refine ⟨hc, ?_, ?_⟩ <;> dsimp only
  · rw [execEncBlock, if_pos hc] at h
    cases h

/-- Each unit operation of `COMPRESS` appends to the member (R262 to R264). -/
theorem buf_of_compressUop {w : Nat} (hw : w ∈ compressUops) {s u t : State} (hok : u.bw.Ok)
    (h : runFetched s (fetchWord .uop w u) = .next t) :
    u.bw.buf <+: t.bw.buf ∧ t.phase = u.phase := by
  simp only [compressUops, List.mem_cons, List.not_mem_nil, or_false] at hw
  rcases hw with rfl | rfl | rfl | rfl
  · obtain ⟨-, h⟩ := guard_next (h : execGzWritehdr u = .next t)
    obtain rfl := Host.Outcome.next.inj h
    exact ⟨BW.appendBytes_eq u.bw _ ▸ List.prefix_append _ _, rfl⟩
  · obtain ⟨d, -, h⟩ := withInput_next (h : execTkTokenize u = .next t)
    obtain rfl := Host.Outcome.next.inj h
    exact ⟨List.prefix_refl _, rfl⟩
  · obtain ⟨hc, hbw, hphase⟩ := execEncBlock_next h
    refine ⟨?_, hphase⟩
    rw [hbw, encodeBlockBits_of_aligned hok hc]
    exact List.prefix_append _ _
  · obtain ⟨-, h⟩ := guard_next (h : execGzWriteftr u = .next t)
    obtain ⟨d, -, h⟩ := withInput_next h
    obtain rfl := Host.Outcome.next.inj h
    exact ⟨BW.appendBytes_eq u.bw _ ▸ List.prefix_append _ _, rfl⟩

theorem outBytes_of_compressing {s : State} (h : s.phase.compressing = true) : s.outBytes = s.bw.buf := if_pos h

theorem outBytes_of_not_compressing {s : State} (h : s.phase.compressing = false) : s.outBytes = s.out :=
  if_neg (h ▸ nofun)

theorem phaseOf_not_compressing (f : Format) : (phaseOf f).compressing = false := by cases f <;> rfl

/-- A step that runs an element leaves `COMPRESS` out of it. -/
theorem Entry.phase_not_compressing {s u : State} {f : Format} (he : Entry s f u) (h : s.Inv) (hu : s.uops = []) :
    s.phase.compressing = false ∧ u.phase.compressing = false := by
  cases he with
  | uop hw => exact absurd (hu.symm.trans hw) nofun
  | element hb hu he =>
    rw [phase_of_expectFits he h.sequencer.2.1]
    exact ⟨phaseOf_not_compressing _, phaseOf_not_compressing _⟩
  | payload hb hu he =>
    rw [phase_of_expectFits (he ▸ nofun) h.sequencer.2.1]
    exact ⟨phaseOf_not_compressing _, rfl⟩

theorem State.Continues.phase_not_compressing {u t : State} {f : Format} (hc : State.Continues f u t)
    (hu : u.phase.compressing = false) (hf : phaseOf f ≠ .idle → u.phase = phaseOf f) :
    t.phase.compressing = false := by
  rcases hc.sequenced with ⟨hp, -⟩ | ⟨hne, hs⟩
  · rwa [hp]
  · exact (hs (hf hne)).2.1

/-- The member `COMPRESS` builds, and the output of `DECOMPRESS`, grow at the end. -/
theorem outBytes_prefix {s t : State} (h : s.Inv) (hb : s.busy = true) (ht : t.busy = true)
    (hs : coreStep s = .next t) : s.outBytes <+: t.outBytes := by
  cases hu : s.uops with
  | cons w rest =>
    obtain ⟨hsuf, hcomp⟩ := h.sequencer.2.2 hb
    have hp := hcomp (hu ▸ nofun)
    have hw : w ∈ compressUops := hsuf.subset (hu ▸ List.mem_cons_self)
    have hphase : (startUop w rest s).phase = sequencePhase w s.phase := if_pos hb
    rw [coreStep, fetch, hu] at hs
    obtain ⟨hbuf, hpt⟩ := buf_of_compressUop hw (h.startUop hu).writer hs
    rw [outBytes_of_compressing hp, outBytes_of_compressing (by rw [hpt, hphase]; exact sequencePhase_compressing w hp)]
    exact hbuf
  | nil =>
    rcases coreStep_cases hs with ⟨f, u, hentry, hc | ⟨e, v, -, rfl⟩⟩ | ⟨-, -, -, rfl⟩ | ⟨hn, -, -⟩
    · obtain ⟨hp, hpu⟩ := hentry.phase_not_compressing h hu
      have hpt := hc.phase_not_compressing hpu fun hne => (hentry.phase h hne).1
      rw [outBytes_of_not_compressing hp, outBytes_of_not_compressing hpt, ← hentry.out.1]
      exact hc.out
    · exact absurd ((statusError_not_busy e).symm.trans ht) nofun
    · exact absurd (statusSuccess_not_busy.symm.trans ht) nofun
    · exact absurd (hb.symm.trans hn) nofun

/-- Settles O15: an instruction of a running command extends `OUT`; an error and completion end the command. -/
theorem outputIsAppendOnly : Obligations.OutputIsAppendOnly := by
  intro s t hin hb hs
  rw [step_eq_coreStep hin] at hs
  refine ⟨fun ht => ?_, fun h ht => outBytes_prefix h hb ht hs, fun ht => ?_⟩
  · rcases coreStep_cases hs with ⟨f, u, hentry, hc | ⟨e, v, -, rfl⟩⟩ | ⟨-, -, -, rfl⟩ | ⟨hn, -, -⟩
    · obtain ⟨hout, hlen, -⟩ := hentry.out
      exact ⟨hout ▸ hc.out, hc.keeps.outLen.trans hlen⟩
    · exact absurd ((statusError_not_busy e).symm.trans ht) nofun
    · exact absurd (statusSuccess_not_busy.symm.trans ht) nofun
    · exact absurd (hb.symm.trans hn) nofun
  · rcases coreStep_cases hs with ⟨f, u, hentry, hc | ⟨e, v, -, rfl⟩⟩ | ⟨-, -, -, rfl⟩ | ⟨hn, -, -⟩
    · obtain ⟨-, -, hbusy⟩ := hentry.out
      exact absurd ((hc.keeps.busy.trans (hbusy.trans hb)).symm.trans ht) nofun
    · exact ⟨statusError_done e, (if_pos (statusError_err e) : ite ((raiseError e v).err = true) _ _ = _) ▸ rfl⟩
    · exact ⟨statusSuccess_done, (if_neg statusSuccess_no_err : ite ((finishCommand s).err = true) _ _ = _) ▸ rfl⟩
    · exact absurd (hb.symm.trans hn) nofun

end Sys2Proof.Machine
end

section
/-! The run of `COMPRESS` (spec/46_gzip_framer.md R261): its four unit operations in turn, each with what it leaves. -/

namespace Sys2Proof.Machine

variable {d : List Byte} {m : Memory}

theorem step_compressing_writehdr (d : List Byte) (m : Memory) (f : Nat) :
    step ((compressing d compressUops .cTokenize BW.empty (TK.start []) Config.crcInit).onInput m f) =
      .next ((compressing d [0x62, 0x70, 0x91] .cTokenize ⟨gzHeader, 0, 0⟩ (TK.start []) Config.crcInit).onInput m f) :=
  (step_compressing rfl m f).trans (exec_gzWritehdr rfl)

section Input

variable (hm : m.readBytes 0 d.length = some d) (bw : BW) (tk : TK) (crc : Word32) (f : Nat)
include hm

theorem step_compressing_tokenize (rest : List Nat) :
    step ((compressing d (0x62 :: rest) .cTokenize bw tk crc).onInput m f) =
      .next ((compressing d rest .cTokenize bw (tk.tokenize d) crc).onInput m f) :=
  (step_compressing rfl m f).trans (exec_tkTokenize hm)

theorem step_compressing_writeftr {p : Phase} (hc : bw.cnt = 0) :
    step ((compressing d [0x91] p bw tk crc).onInput m f) =
      .next ((compressing d [] .cFrame { bw with buf := bw.buf ++ gzFooter d } tk (crcRun d)).onInput m f) := by
  rw [← BW.appendBytes_eq]
  exact (step_compressing rfl m f).trans (exec_gzWriteftr hc hm)

end Input

theorem step_compressing_encBlock {bw : BW} (hok : bw.Ok) (hc : bw.cnt = 0) {tk : TK}
    (hq : tk.queue.all Token.ok = true) (rest : List Nat) (p : Phase) (crc : Word32) (m : Memory) (f : Nat) :
    step ((compressing d (0x70 :: rest) p bw tk crc).onInput m f) =
      .next ((compressing d rest .cEncode ⟨bw.buf ++ blockBytes tk.queue, 0, 0⟩ { tk with queue := [] } crc).onInput m f) := by
  rw [step_compressing (i := .encBlock) rfl, exec_encBlock]
  · simp only [State.onInput, compressing, encodeBlockBits_of_aligned hok hc]
    rfl
  · exact hc
  · exact hq

/-- The state of `COMPRESS` of `d` before its last unit operation, the footer. -/
def compressingBlock (d : List Byte) : State :=
  compressing d [0x91] .cEncode ⟨gzHeader ++ blockBytes (tokenize d), 0, 0⟩
    { (TK.start []).tokenize d with queue := [] } Config.crcInit

section Run

variable {s : State} (hq : s.Quiet) (hh : s.Holds d)
include hq hh

/-- The command write, `GZ.WRITEHDR`, `TK.TOKENIZE` and `ENC.BLOCK` (R262, R263). -/
theorem run_compress_block (k : Nat) : Host.Core.run Sys2Proof.core (k + 4) (s.withCommand 1) =
    Host.Core.run Sys2Proof.core k ((compressingBlock d).onInput s.inBuf s.free) := by
  obtain ⟨hl, hin⟩ := hh
  rw [run_succ_of_next (step_withCommand_compress hq hl), run_succ_of_next (step_compressing_writehdr d _ _),
    run_succ_of_next (step_compressing_tokenize (hl ▸ hin) _ _ _ _ _),
    run_succ_of_next (step_compressing_encBlock (by constructor <;> decide) rfl (validTokens_tokenize d).1 _ _ _ _ _)]
  rfl

/-- After the block, `GZ.WRITEFTR` and completion (R264, R266). -/
theorem run_compress : ∃ t, Host.Core.run Sys2Proof.core 6 (s.withCommand 1) = .next t ∧
    t.Succeeded (gzHeader ++ blockBytes (tokenize d) ++ gzFooter d) ∧ t.inBuf = s.inBuf ∧ t.inLen = s.inLen := by
  have hm : s.inBuf.readBytes 0 d.length = some d := hh.1 ▸ hh.2
  rw [run_compress_block hq hh 2, compressingBlock, run_succ_of_next (step_compressing_writeftr hm _ _ _ _ rfl)]
  refine ⟨_, run_succ_of_next (step_finish rfl rfl ?_ rfl) 0, finishCommand_succeeded _, rfl, hh.1⟩
  exact statusBusy_busy

end Run

/-- Settles O17: six steps, the last of which stores the writer's buffer as `OUT`. -/
theorem compressRunsToCompletion : Obligations.CompressRunsToCompletion := fun _ _ hq hh =>
  ⟨run_compress hq hh, _, run_compress_block hq hh 0, statusBusy_busy, rfl, List.drop_left (l₁ := gzHeader)⟩

end Sys2Proof.Machine
end

section
/-! Members with bytes missing at the end (spec/46_gzip_framer.md R273): a decoder operation that meets the end of the payload inside
what it reads raises `E_TRUNCATED`. -/

namespace Sys2Proof.Machine

/-! ### Operations that meet the end of the source -/

/-- The unread bits are these with some missing at the end. -/
def BR.cuts (br : BR) (bits : List Bool) : Prop :=
  br.avail < bits.length ∧ ∀ i < br.avail, some (bitAt br.src (br.bitpos + i)) = bits[i]?

/-- Where the unread bits are cut off within a sequence, they are cut off within its first part, or within what follows it. -/
theorem BR.cuts_append {br : BR} {bs cs : List Bool} (hc : br.cuts (bs ++ cs)) :
    br.cuts bs ∨ br.begins bs ∧ ∀ h, (br.past bs.length h).cuts cs := by
  obtain ⟨hlen, hbits⟩ := hc
  rw [List.length_append] at hlen
  rcases Nat.lt_or_ge br.avail bs.length with hlt | hle
  · exact .inl ⟨hlt, fun i hi => by rw [hbits i hi, List.getElem?_append_left (hi.trans hlt)]⟩
  · refine .inr ⟨⟨hle, fun i hi => ?_⟩, fun h => ⟨?_, fun i hi => ?_⟩⟩
    · rw [hbits i (by omega), List.getElem?_append_left hi]
    · rw [BR.avail_past]
      omega
    · rw [BR.avail_past] at hi
      rw [BR.past, Nat.add_assoc, hbits _ (by omega), List.getElem?_append_right (Nat.le_add_right _ _),
        Nat.add_sub_cancel_left]

/-- A decoder operation fails when the bits it reads are cut off. -/
def FailsCut {α : Type} (f : Inflater → Res Inflater α) (bits : List Bool) (o : List Byte) : Prop :=
  ∀ d : Inflater, d.br.cuts bits → d.out = o → ∃ d', f d = .raise .truncated d'

section Cut

variable {α β : Type} {o o' : List Byte}

theorem FailsCut.bind {f : Inflater → Res Inflater α} {g : α → Inflater → Res Inflater β} {bs cs : List Bool} {a : α}
    (hf : FailsCut f bs o) (hr : Reads f bs a o o') (hg : FailsCut (g a) cs o') :
    FailsCut (fun d => (f d).bind g) (bs ++ cs) o := by
  intro d hc ho
  rcases BR.cuts_append hc with hbs | ⟨hbs, hcs⟩
  · obtain ⟨d', hd⟩ := hf d hbs ho
    exact ⟨d', by simp only [hd, Res.bind_raise]⟩
  · obtain ⟨h, hd⟩ := hr d hbs ho
    obtain ⟨d', hd'⟩ := hg { d with br := d.br.past bs.length h, out := o' } (hcs h) rfl
    exact ⟨d', by simp only [hd, Res.bind_ok, hd']⟩

theorem failsCut_nil (f : Inflater → Res Inflater α) (o : List Byte) : FailsCut f [] o :=
  fun _ hc => absurd hc.1 (Nat.not_lt_zero _)

theorem failsCut_readBits (v n : Nat) (o : List Byte) : FailsCut (onReader (·.readBits n)) (lowBits v n) o :=
  fun d hc _ => ⟨d, onReader_readBits_of_avail_lt (length_lowBits v n ▸ hc.1)⟩

theorem failsCut_hdDist (j : Nat) (o : List Byte) : FailsCut (onReader hdDist) (codeBits j 5) o := by
  intro d hc _
  rcases hdDist_cases d.br with ⟨ha, -⟩ | ⟨-, hr⟩
  · exact absurd (length_codeBits j 5 ▸ hc.1) (Nat.not_lt.mpr ha)
  · exact ⟨_, onReader_eq_raise.mpr ⟨_, hr, rfl⟩⟩

/-- A code found in bits that are cut off within another code would be a prefix of it (R172). -/
theorem prefix_of_begins_of_cuts {br : BR} {bs cs : List Bool} (hb : br.begins bs) (hc : br.cuts cs) : bs <+: cs :=
  List.prefix_iff_getElem?.mpr fun i hi => by
    rw [← hc.2 i (hi.trans_le hb.1), hb.2 i hi, List.getElem?_eq_getElem hi]

theorem failsCut_hdLitlen {sym : Nat} (hs : sym < 288) (o : List Byte) :
    FailsCut (onReader hdLitlen) (codeBits (litlenCode sym).1 (litlenCode sym).2) o := by
  intro d hc _
  rcases hdLitlen_cases d.br with ⟨ha, -⟩ | ⟨-, hr⟩
  · obtain ⟨hfound, hlen, -, -⟩ := litlenDec9_peek d.br
    obtain rfl := litlenCode_prefix_free hfound hs (prefix_of_begins_of_cuts (begins_litlenDec9_peek ha) hc)
    exact absurd hc.1 (Nat.not_lt.mpr (by rwa [length_codeBits, ← hlen]))
  · exact ⟨_, onReader_eq_raise.mpr ⟨_, hr, rfl⟩⟩

/-! ### A block cut off (R239) -/

theorem failsCut_readMatch {len dist : Nat} (hm : matchOk len dist = true) (o : List Byte) :
    FailsCut (readMatch (lenIndex len)) (matchTail len dist) o := by
  obtain ⟨llo, lhi, dlo, dhi⟩ := range_of_matchOk hm
  obtain ⟨-, -, -, hlextra⟩ := symbolSelection.1 len llo lhi
  obtain ⟨hj, -, -, hdextra⟩ := symbolSelection.2.1 dist dlo dhi
  refine (failsCut_readBits _ _ o).bind (reads_readBits hlextra o)
    ((failsCut_hdDist _ o).bind (reads_hdDist (by omega) o) ?_)
  simp only [if_neg (Nat.not_le.mpr hj)]
  exact (failsCut_readBits _ _ o).bind (reads_readBits hdextra o) (failsCut_nil _ o)

theorem failsCut_readFixedItem_token {t : Token} (ht : t.ok = true) (o : List Byte) :
    FailsCut readFixedItem (tokenStream t) o := by
  cases t with
  | lit b =>
    rw [tokenStream, ← List.append_nil (codeBits _ _)]
    exact (failsCut_hdLitlen (by omega) o).bind (reads_hdLitlen (by omega) o) (failsCut_nil _ o)
  | mtch len dist =>
    obtain ⟨llo, lhi, -, -⟩ := range_of_matchOk ht
    obtain ⟨hi, -, -, -⟩ := symbolSelection.1 len llo lhi
    rw [tokenStream_mtch]
    refine (failsCut_hdLitlen (by omega) o).bind (reads_hdLitlen (by omega) o) ?_
    simp only [if_neg (show ¬257 + lenIndex len < 256 by omega), if_neg (show ¬257 + lenIndex len = 256 by omega),
      if_neg (show ¬286 ≤ 257 + lenIndex len by omega), Nat.add_sub_cancel_left]
    intro d hc ho
    obtain ⟨d', hd⟩ := failsCut_readMatch ht o d hc ho
    exact ⟨d', by simp only [hd, Res.bind_raise]⟩

theorem failsCut_readFixedItem_eob (o : List Byte) : FailsCut readFixedItem (List.replicate 7 false) o := by
  rw [← codeBits_eob, ← List.append_nil (codeBits _ _)]
  exact (failsCut_hdLitlen (by decide) o).bind (reads_hdLitlen (by decide) o) (failsCut_nil _ o)

/-- However many iterations there are: with none left the loop fails in the same way. -/
theorem failsCut_readFixedLoop {ts : List Token} (hok : ts.all Token.ok = true) (he : expandFrom o ts = some o')
    (fuel : Nat) : FailsCut (readFixedLoop · fuel) (bodyStream ts) o := by
  induction ts generalizing o fuel with
  | nil =>
    cases fuel with
    | zero => exact fun d _ _ => ⟨d, rfl⟩
    | succ fuel =>
      rw [bodyStream, List.flatMap_nil, List.nil_append, ← List.append_nil (List.replicate 7 false)]
      exact (failsCut_readFixedItem_eob o).bind (reads_readFixedItem_eob o) (failsCut_nil _ o)
  | cons t ts ih =>
    cases fuel with
    | zero => exact fun d _ _ => ⟨d, rfl⟩
    | succ fuel =>
      obtain ⟨ht, hts⟩ := Bool.and_eq_true_iff.mp (List.all_cons ▸ hok)
      obtain ⟨o1, ho1, he1⟩ := expandFrom_cons he
      rw [bodyStream_cons]
      exact (failsCut_readFixedItem_token ht o).bind (reads_readFixedItem_token ht ho1) (ih hts he1 fuel)

theorem failsCut_readFixed {ts : List Token} (hok : ts.all Token.ok = true) (he : expandFrom o ts = some o') :
    FailsCut readFixed (bodyStream ts) o := fun d hc ho => failsCut_readFixedLoop hok he _ d hc ho

/-- `DEC.INFLATE` on a final fixed-Huffman block that is cut off. -/
theorem inflate_of_cuts {d : Inflater} {ts : List Token} (hc : d.br.cuts ([true, true, false] ++ bodyStream ts))
    (hok : ts.all Token.ok = true) (he : expandFrom d.out ts = some o) : ∃ d', inflate d = .raise .truncated d' := by
  rcases BR.cuts_append hc with hheader | ⟨hheader, hbody⟩
  · obtain ⟨d', hr⟩ := readBlockHeader_of_avail_lt hheader.1
    exact ⟨d', by rw [inflate, inflateLoop, hr, Res.bind_raise]⟩
  · obtain ⟨h, hr⟩ := readBlockHeader_of_begins hheader
    obtain ⟨d', hr'⟩ := failsCut_readFixed hok he ⟨d.br.past 3 h, d.out, 1, 1⟩ (hbody h) rfl
    refine ⟨d', ?_⟩
    rw [inflate, inflateLoop, hr, Res.bind_ok, readBlockBody, if_neg (show (1 : BitVec 2) ≠ 0 by decide), if_pos rfl, hr',
      Res.bind_raise]

end Cut

/-! ### A member cut off (R273) -/

theorem length_flatMap_byteBits (src : List Byte) : (src.flatMap byteBits).length = 8 * src.length := by
  simp [List.length_flatMap, Nat.mul_comm]

/-- The padding of a block is less than a byte, so a block without its last byte is cut off before its end (R142, R210). -/
theorem cuts_take_blockBytes (ts : List Token) {j : Nat} (hj : j < (blockBytes ts).length) :
    (BR.init ((blockBytes ts).take j)).cuts ([true, true, false] ++ bodyStream ts) := by
  have hlen := length_flatMap_byteBits (blockBytes ts)
  have hbits := flatMap_byteBits_blockBytes ts
  have htake : ((blockBytes ts).take j).length = j := List.length_take_of_le hj.le
  have havail : (BR.init ((blockBytes ts).take j)).avail = 8 * j := by rw [BR.avail, BR.init, htake]; rfl
  have hcut : 8 * j < ([true, true, false] ++ bodyStream ts).length := by
    rw [hbits, List.length_append, padBits, List.length_replicate] at hlen
    omega
  refine ⟨havail ▸ hcut, fun i hi => ?_⟩
  rw [havail] at hi
  have hsplit : (blockBytes ts).flatMap byteBits =
      ((blockBytes ts).take j).flatMap byteBits ++ ((blockBytes ts).drop j).flatMap byteBits := by
    rw [← List.flatMap_append, List.take_append_drop]
  rw [BR.init, Nat.zero_add, ← getElem?_flatMap_byteBits (by rwa [htake]),
    ← List.getElem?_append_left (l₂ := ((blockBytes ts).drop j).flatMap byteBits)
      (by rwa [length_flatMap_byteBits, htake]), ← hsplit, hbits, List.getElem?_append_left (hi.trans hcut)]

theorem inflateBytes_take_blockBytes {x : List Byte} {ts : List Token} (h : ValidTokens x ts) {j : Nat}
    (hj : j < (blockBytes ts).length) : inflateBytes ((blockBytes ts).take j) = .error .truncated := by
  obtain ⟨hok, he⟩ := h
  obtain ⟨d', hr⟩ := inflate_of_cuts (d := ⟨BR.init ((blockBytes ts).take j), [], 0, 0⟩) (cuts_take_blockBytes ts hj) hok he
  rw [inflateBytes, hr]

/-- With at least 18 bytes left of a member, what the decoder takes for the payload is a part of the block. -/
theorem take_memberOf (x : List Byte) (ts : List Token) {k : Nat} (hk : 18 ≤ k) (hlt : k < (memberOf x ts).length) :
    ∃ footer, footer.length = 8 ∧ k - 18 < (blockBytes ts).length ∧
      (memberOf x ts).take k = gzHeader ++ (blockBytes ts).take (k - 18) ++ footer := by
  rw [length_memberOf, ← length_blockBytes] at hlt
  have htake : (blockBytes ts ++ gzFooter x).take (k - 18) = (blockBytes ts).take (k - 18) :=
    List.take_append_of_le_length (by omega)
  refine ⟨((blockBytes ts ++ gzFooter x).take (k - 10)).drop (k - 18), ?_, by omega, ?_⟩
  · rw [List.length_drop, List.length_take, List.length_append, length_gzFooter]
    omega
  · have hmin : min (k - 18) (k - 10) = k - 18 := by omega
    rw [← htake, ← hmin, ← List.take_take, hmin, List.append_assoc, List.take_append_drop, memberOf, List.append_assoc,
      List.take_append, length_gzHeader, List.take_of_length_le (by rw [length_gzHeader]; omega)]

theorem decompressBytes_of_short {y : List Byte} (hy : y.length < 18) : decompressBytes y = .error .tooShort := by
  rw [decompressBytes, parseHeader, parseLength, if_pos hy, Res.bind_raise]

/-- A member whose payload does not inflate ends in that error. -/
theorem decompressBytes_of_inflateBytes_error {body footer : List Byte} {e : ErrKind} (hf : footer.length = 8)
    (hi : inflateBytes body = .error e) : decompressBytes (gzHeader ++ body ++ footer) = .error e := by
  obtain ⟨gz, hparse, hpay⟩ := parseHeader_gzHeader body hf
  simp only [decompressBytes, hparse, hpay, hi]

/-- Settles O22: below 18 bytes the length check fails; otherwise the payload is the block cut off, whose decoding meets the end of
the payload (`inflate_of_cuts`, by induction on the tokens). -/
theorem truncatedMembersFail : Obligations.TruncatedMembersFail := fun x ts k h hlt => by
  rcases Nat.lt_or_ge k 18 with hk | hk
  · exact ⟨.tooShort, decompressBytes_of_short ((List.length_take_le _ _).trans_lt hk), rfl⟩
  · obtain ⟨footer, hf, hj, hy⟩ := take_memberOf x ts hk hlt
    exact ⟨.truncated, hy ▸ decompressBytes_of_inflateBytes_error hf (inflateBytes_take_blockBytes h hj), rfl⟩

end Sys2Proof.Machine
end

section
/-! The elements of a member, step by step, are the decoder's two loops (spec/45_deflate_fixed_decoder.md R230, R239): what the elements
from a state on still do is one operation of the decoder, and a step does its first part. -/

namespace Sys2Proof.Machine

/-! ### Consuming decoded bits is reading them -/

/-- Two continuations of an operation that moves the reader `n` bits on need to agree only there. -/
theorem bind_congr_of_ok {σ α β : Type} {r : Res σ α} {g g' : α → σ → Res σ β}
    (h : ∀ a x, r = .ok a x → g a x = g' a x) : r.bind g = r.bind g' := by
  cases r with
  | ok a x => exact h a x rfl
  | raise e x => rfl

/-- A read is a skip of as many bits, the value known beforehand. -/
theorem onReader_readBits_bind {α : Type} (n : Nat) (d : Inflater) (g : Nat → Inflater → Res Inflater α) :
    (onReader (·.readBits n) d).bind g = (takeBits n d).bind fun _ x => g (bitsAt d.br.src d.br.bitpos n) x := by
  unfold takeBits onReader BR.readBits BR.skipBits
  by_cases ha : d.br.avail < n
  · simp only [if_pos ha, Res.bind_raise]
  · simp only [if_neg ha, Res.bind_ok]

theorem onReader_hdLitlen_bind {α : Type} (d : Inflater) (g : Nat → Inflater → Res Inflater α) :
    (onReader hdLitlen d).bind g =
      (takeSymbol (litlenDec9 (d.br.peekValue 9)).1 d).bind fun _ x => g (litlenDec9 (d.br.peekValue 9)).1 x := by
  obtain ⟨-, hlen, -⟩ := litlenDec9_peek d.br
  have hcode := takeCode_cases (litlenDec9 (d.br.peekValue 9)).2 d.br
  rw [takeSymbol, ← hlen]
  rcases hdLitlen_cases d.br with ⟨ha, he⟩ | ⟨ha, he⟩ <;> rcases hcode with ⟨ha', he'⟩ | ⟨ha', he'⟩
  · rw [onReader, he, onReader, he', Res.bind_ok, Res.bind_ok]
  · exact absurd ha (Nat.not_le.mpr ha')
  · exact absurd ha' (Nat.not_le.mpr ha)
  · rw [onReader, he, onReader, he', Res.bind_raise, Res.bind_raise]

theorem onReader_hdDist_bind {α : Type} (d : Inflater) (g : Nat → Inflater → Res Inflater α) :
    (onReader hdDist d).bind g =
      (takeBits 5 d).bind fun _ x => g (rev (bitsAt d.br.src d.br.bitpos 5) 5) x := by
  rw [← onReader_readBits_bind 5 d fun v => g (rev v 5)]
  unfold onReader hdDist
  simp only [Config.distCodeLen]
  cases d.br.readBits 5 <;> rfl

theorem takeBits_ok {n : Nat} {d x : Inflater} (h : takeBits n d = .ok () x) :
    x.br.src = d.br.src ∧ x.br.bitpos = d.br.bitpos + n := by
  obtain ⟨br, hbr, rfl⟩ := onReader_eq_ok.mp h
  rcases d.br.skipBits_cases n with ⟨-, he⟩ | ⟨-, he⟩ <;> rw [he] at hbr <;> cases hbr
  exact ⟨rfl, rfl⟩

theorem takeSymbol_ok {sym : Nat} {d x : Inflater} (h : takeSymbol sym d = .ok () x) :
    x.br.src = d.br.src ∧ x.br.bitpos = d.br.bitpos + (litlenCode sym).2 := by
  obtain ⟨br, hbr, rfl⟩ := onReader_eq_ok.mp h
  rcases takeCode_cases (litlenCode sym).2 d.br with ⟨-, he⟩ | ⟨-, he⟩ <;> rw [he] at hbr <;> cases hbr
  exact ⟨rfl, rfl⟩

/-- The extra bits of a symbol stand above its code in a longer word. -/
theorem bitsAt_div_mod (src : List Byte) (pos : Nat) {a b n : Nat} (h : a + b ≤ n) :
    bitsAt src pos n / 2 ^ a % 2 ^ b = bitsAt src (pos + a) b := by
  obtain ⟨k, rfl⟩ := Nat.exists_eq_add_of_le h
  rw [Nat.add_assoc, bitsAt_add, Nat.add_mul_div_left _ _ (Nat.two_pow_pos a), Nat.div_eq_of_lt (bitsAt_lt src pos a),
    Nat.zero_add, bitsAt_mod]

/-! ### The rest of a payload -/

/-- What follows a block (R230): the end, or the next block. -/
def afterBlock (d : Inflater) : Res Inflater Unit := if d.bfinal = 1 then .ok () d else inflate d

/-- The part of a match after its length (R239). -/
def readDistance (len : Nat) (d : Inflater) : Res Inflater Unit :=
  (onReader hdDist d).bind fun j d =>
    if 30 ≤ j then .raise .badSymbol d
    else (onReader (·.readBits (distExtra j)) d).bind fun x d => resolveMatch len (distanceOf j x) d

/-- What the elements from the expected one on still do. -/
def State.rest (s : State) : Res Inflater Unit :=
  match s.expect with
  | .blkhdr => inflate s.inflater
  | .stored => (readStored s.inflater).bind fun _ => afterBlock
  | .litlen => (readFixed s.inflater).bind fun _ => afterBlock
  | .dist => (readDistance s.dec.len s.inflater).bind fun _ d => (readFixed d).bind fun _ => afterBlock
  | .nothing | .gzhdr | .gzopt | .gzftr => .ok () s.inflater

theorem inflate_eq (d : Inflater) :
    inflate d = (readBlockHeader d).bind fun _ d => (readBlockBody d).bind fun _ => afterBlock := inflate_unroll d

theorem readMatch_eq (i : Nat) (d : Inflater) :
    readMatch i d = (onReader (·.readBits (lenExtra i)) d).bind fun e => readDistance (lengthOf i e) := rfl

/-- At the end of a block the rest is what follows it. -/
theorem rest_endBlock (s : State) : (endBlock s).rest = afterBlock s.inflater := by
  unfold endBlock afterBlock
  by_cases hb : s.dec.bfinal = 1
  · rw [if_pos hb, if_pos (show s.inflater.bfinal = 1 from hb)]
    rfl
  · rw [if_neg hb, if_neg (show ¬s.inflater.bfinal = 1 from hb)]
    rfl

/-- `DECOMPRESS` reads the payload of the member `d`, or its footer. -/
structure State.Reading (s : State) (d : List Byte) : Prop extends s.Decoding d where
  input : s.input = some d
  phase : s.phase.compressing = false

/-- What an element of a block does to the sequencer, after its bits are consumed: the reader stays where it is. -/
structure Resumes (next : State → State) : Prop where
  br : ∀ t, (next t).br = t.br
  reading : ∀ {d t}, t.Reading d → (next t).Reading d

theorem resumes_id : Resumes id := ⟨fun _ => rfl, fun h => h⟩

theorem resumes_expect {e : Expect} (he : e ∈ elementsAfterHeader) : Resumes fun t => { t with expect := e } :=
  ⟨fun _ => rfl, fun h => { h with expect := he }⟩

theorem resumes_length (len : Nat) : Resumes fun t => { t with dec := { t.dec with len := len }, expect := .dist } :=
  ⟨fun _ => rfl, fun h => { h with expect := (by decide : Expect.dist ∈ elementsAfterHeader) }⟩

theorem resumes_endBlock : Resumes endBlock where
  br := endBlock_br
  reading {d t} h := by
    unfold endBlock
    split
    · exact { h with expect := (by decide : Expect.gzftr ∈ elementsAfterHeader), phase := rfl }
    · exact { h with expect := (by decide : Expect.blkhdr ∈ elementsAfterHeader) }

/-- An element does the first part of the rest, and consumes at least one bit. -/
structure Performs (s : State) (act : State → StepResult) (r : Res Inflater Unit) (next : State → State) : Prop where
  resumes : Resumes next
  act : act s = runInflater r s fun _ t => .next (next t)
  below : r.LeavesBelow s.br.avail
  rest : s.rest = r.bind fun _ d => (next (s.withInflater d)).rest

/-! ### Elements of a fixed-Huffman block (R239 to R245) -/

theorem exec_lenInstr_mod {i : Nat} (hi : i < 29) (e : Nat) :
    exec (lenInstr i e) = lengthItem i (e % 2 ^ lenExtra i) := by
  have hnone (h : lenExtra i = 0) : lengthItem i (e % 2 ^ lenExtra i) = lengthItem i 0 := by
    rw [h, Nat.pow_zero, Nat.mod_one]
  rcases (by omega : i < 8 ∨ (8 ≤ i ∧ i ≤ 27) ∨ i = 28) with h8 | ⟨hlo, hhi⟩ | rfl
  · rw [hnone (by interval_cases i <;> rfl)]
    interval_cases i <;> rfl
  · interval_cases i <;> rfl
  · exact (hnone rfl).symm

theorem exec_distInstr_mod {j : Nat} (hj : j < 30) (x : Nat) :
    exec (distInstr j x) = distanceItem j (x % 2 ^ distExtra j) := by
  rcases Nat.lt_or_ge j 4 with h4 | h4
  · have hnone : distExtra j = 0 := by interval_cases j <;> rfl
    rw [hnone, Nat.pow_zero, Nat.mod_one]
    interval_cases j <;> rfl
  · interval_cases j <;> rfl

/-- The rest where a literal/length symbol is expected, by the symbol whose code stands there. -/
theorem rest_litlen {s : State} (he : s.expect = .litlen) (sym : Nat) (hsym : (litlenDec9 (s.br.peekValue 9)).1 = sym) :
    s.rest = (takeSymbol sym s.inflater).bind fun _ d =>
      if sym < 256 then (readFixed (d.append (BitVec.ofNat 8 sym))).bind fun _ => afterBlock
      else if sym = 256 then afterBlock d
      else if 286 ≤ sym then .raise .badSymbol d
      else (onReader (·.readBits (lenExtra (sym - 257))) d).bind fun e d =>
        (readDistance (lengthOf (sym - 257) e) d).bind fun _ d => (readFixed d).bind fun _ => afterBlock := by
  rw [State.rest, he]
  simp only
  rw [readFixed_unroll, readFixedItem, onReader_hdLitlen_bind, show s.inflater.br = s.br from rfl, hsym, Res.bind_assoc,
    Res.bind_assoc]
  refine bind_congr_of_ok fun _ d _ => ?_
  split
  · rfl
  · split
    · rfl
    · split
      · rfl
      · simp only [readMatch_eq, Res.bind_assoc]
        rfl

section Litlen

variable {s : State} (he : s.expect = .litlen) {sym : Nat} (hsym : (litlenDec9 (s.br.peekValue 9)).1 = sym)
include he hsym

theorem performs_literal (h : sym < 256) : Performs s (literalItem (BitVec.ofNat 8 sym))
    ((takeSymbol sym s.inflater).bind fun _ d => .ok () (d.append (BitVec.ofNat 8 sym))) id where
  resumes := resumes_id
  act := by
    rw [literalItem, BitVec.toNat_ofNat, Nat.mod_eq_of_lt h]
    rfl
  below := (takeSymbol_leavesBelow sym s.inflater).bind fun _ _ hx => leavesBelow_ok hx
  rest := by
    rw [rest_litlen he sym hsym, Res.bind_assoc]
    refine bind_congr_of_ok fun _ d _ => ?_
    rw [if_pos h, Res.bind_ok, id, State.rest, show (s.withInflater _).expect = .litlen from he]
    rfl

theorem performs_eob (h : sym = 256) : Performs s eobItem (takeSymbol 256 s.inflater) endBlock where
  resumes := resumes_endBlock
  act := rfl
  below := takeSymbol_leavesBelow 256 s.inflater
  rest := by
    subst h
    rw [rest_litlen he 256 hsym]
    refine bind_congr_of_ok fun _ d _ => ?_
    rw [if_neg (by decide), if_pos rfl, rest_endBlock]
    rfl

theorem performs_length (hlo : 257 ≤ sym) (hhi : sym < 286) {e : Nat}
    (hx : e = bitsAt s.br.src (s.br.bitpos + (litlenCode sym).2) (lenExtra (sym - 257))) :
    Performs s (lengthItem (sym - 257) e)
      ((takeSymbol sym s.inflater).bind fun _ d => takeBits (lenExtra (sym - 257)) d)
      fun t => { t with dec := { t.dec with len := lengthOf (sym - 257) e }, expect := .dist } where
  resumes := resumes_length _
  act := by
    rw [lengthItem, show 257 + (sym - 257) = sym by omega]
  below := (takeSymbol_leavesBelow sym s.inflater).bind fun _ _ hx => takeBits_leavesBelow (Nat.lt_add_right _ hx)
  rest := by
    rw [rest_litlen he sym hsym, Res.bind_assoc]
    refine bind_congr_of_ok fun _ d hd => ?_
    obtain ⟨hsrc, hpos⟩ := takeSymbol_ok hd
    rw [if_neg (show ¬sym < 256 by omega), if_neg (show ¬sym = 256 by omega), if_neg (show ¬286 ≤ sym by omega),
      onReader_readBits_bind, hsrc, hpos, show s.inflater.br = s.br from rfl, ← hx]
    rfl

theorem performs_reservedLitlen (hs : sym = 286 ∨ sym = 287) : Performs s (reservedLitlenItem sym)
    ((takeSymbol sym s.inflater).bind fun _ d => .raise .badSymbol d) id where
  resumes := resumes_id
  act := rfl
  below := (takeSymbol_leavesBelow sym s.inflater).bind fun _ _ _ => leavesBelow_raise _ _ _
  rest := by
    rw [rest_litlen he sym hsym, Res.bind_assoc]
    refine bind_congr_of_ok fun _ d _ => ?_
    rw [if_neg (show ¬sym < 256 by omega), if_neg (show ¬sym = 256 by omega), if_pos (show 286 ≤ sym by omega),
      Res.bind_raise]

end Litlen

/-- The literal/length element that stands at the reader (R311). -/
theorem performs_litlen {s : State} (he : s.expect = .litlen) : ∃ act r next,
    Performs s act r next ∧ ∃ i, decode .litlen (bitsAt s.br.src s.br.bitpos 14) = .ok i ∧ exec i = act := by
  obtain ⟨hs, hlen, -, h9⟩ := litlenDec9_peek s.br
  have hindex : bitsAt s.br.src s.br.bitpos 14 % 512 = s.br.peekValue 9 := bitsAt_mod _ _ 9 5
  have hdecode : decode .litlen (bitsAt s.br.src s.br.bitpos 14) =
      .ok (symbolInstr (litlenDec9 (s.br.peekValue 9)).1
        (bitsAt s.br.src s.br.bitpos 14 / 2 ^ (litlenDec9 (s.br.peekValue 9)).2)) := by
    rw [← hindex]
    rfl
  rw [hlen] at hdecode h9
  generalize hsym : (litlenDec9 (s.br.peekValue 9)).1 = sym at *
  rw [symbolInstr] at hdecode
  split_ifs at hdecode with hlit heob hlength h286
  · exact ⟨_, _, _, performs_literal he hsym hlit, _, hdecode, exec_litInstr _⟩
  · exact ⟨_, _, _, performs_eob he hsym heob, _, hdecode, rfl⟩
  · have hextra := lenExtra_le (sym - 257)
    exact ⟨_, _, _, performs_length he hsym (by omega) (by omega) rfl, _, hdecode,
      (exec_lenInstr_mod (by omega) _).trans (by rw [bitsAt_div_mod _ _ (by omega)])⟩
  · exact ⟨_, _, _, performs_reservedLitlen he hsym (.inl h286), _, hdecode, h286 ▸ rfl⟩
  · obtain rfl : sym = 287 := by omega
    exact ⟨_, _, _, performs_reservedLitlen he hsym (.inr rfl), _, hdecode, rfl⟩

/-- The rest where a distance symbol is expected, by the symbol whose code stands there. -/
theorem rest_dist {s : State} (he : s.expect = .dist) {j : Nat} (hj : rev (bitsAt s.br.src s.br.bitpos 5) 5 = j) :
    s.rest = (takeBits 5 s.inflater).bind fun _ d =>
      if 30 ≤ j then .raise .badSymbol d
      else (onReader (·.readBits (distExtra j)) d).bind fun x d =>
        (resolveMatch s.dec.len (distanceOf j x) d).bind fun _ d => (readFixed d).bind fun _ => afterBlock := by
  rw [State.rest, he]
  simp only
  rw [readDistance, onReader_hdDist_bind, show s.inflater.br = s.br from rfl, hj, Res.bind_assoc]
  refine bind_congr_of_ok fun _ d _ => ?_
  split
  · rfl
  · rw [Res.bind_assoc]

section Dist

variable {s : State} (he : s.expect = .dist) {j : Nat} (hj : rev (bitsAt s.br.src s.br.bitpos 5) 5 = j)
include he hj

theorem performs_distance (hlt : j < 30) {x : Nat} (hx : x = bitsAt s.br.src (s.br.bitpos + 5) (distExtra j)) :
    Performs s (distanceItem j x)
      ((takeBits 5 s.inflater).bind fun _ d =>
        (takeBits (distExtra j) d).bind fun _ d => resolveMatch s.dec.len (distanceOf j x) d)
      fun t => { t with expect := .litlen } where
  resumes := resumes_expect (by decide)
  act := rfl
  below := (takeBits_leavesBelow (by exact Nat.lt_add_of_pos_right (by decide))).bind fun _ _ hy =>
    (takeBits_leavesBelow (Nat.lt_add_right _ hy)).bind fun _ _ hz => resolveMatch_leavesBelow hz _ _
  rest := by
    rw [rest_dist he hj, Res.bind_assoc]
    refine bind_congr_of_ok fun _ d hd => ?_
    obtain ⟨hsrc, hpos⟩ := takeBits_ok hd
    rw [if_neg (Nat.not_le.mpr hlt), onReader_readBits_bind, hsrc, hpos, show s.inflater.br = s.br from rfl, ← hx,
      Res.bind_assoc]
    rfl

theorem performs_reservedDist (h30 : 30 ≤ j) : Performs s reservedDistItem
    ((takeBits 5 s.inflater).bind fun _ d => .raise .badSymbol d) id where
  resumes := resumes_id
  act := rfl
  below := (takeBits_leavesBelow (by exact Nat.lt_add_of_pos_right (by decide))).bind fun _ _ _ =>
    leavesBelow_raise _ _ _
  rest := by
    rw [rest_dist he hj, Res.bind_assoc]
    refine bind_congr_of_ok fun _ d _ => ?_
    rw [if_pos h30, Res.bind_raise]

end Dist

/-- The distance element that stands at the reader (R311). -/
theorem performs_dist {s : State} (he : s.expect = .dist) : ∃ act r next,
    Performs s act r next ∧ ∃ i, decode .dist (bitsAt s.br.src s.br.bitpos 18) = .ok i ∧ exec i = act := by
  have hcode : bitsAt s.br.src s.br.bitpos 18 % 32 = bitsAt s.br.src s.br.bitpos 5 := bitsAt_mod _ _ 5 13
  have hdecode : decode .dist (bitsAt s.br.src s.br.bitpos 18) =
      .ok (distInstr (rev (bitsAt s.br.src s.br.bitpos 5) 5) (bitsAt s.br.src s.br.bitpos 18 / 2 ^ 5)) := by
    rw [← hcode]
    rfl
  generalize hj : rev (bitsAt s.br.src s.br.bitpos 5) 5 = j at *
  rcases Nat.lt_or_ge j 30 with hlt | hge
  · have hextra := distExtra_le j
    exact ⟨_, _, _, performs_distance he hj hlt rfl, _, hdecode,
      (exec_distInstr_mod hlt _).trans (by rw [bitsAt_div_mod _ _ (by omega)])⟩
  · exact ⟨_, _, _, performs_reservedDist he hj hge, _, hdecode, exec_distInstr_reserved hge _⟩

/-! ### Block headers and stored bodies (R231, R236 to R238) -/

theorem ofNat_mod_two_pow (n v : Nat) : BitVec.ofNat n (v % 2 ^ n) = BitVec.ofNat n v := by
  apply BitVec.eq_of_toNat_eq
  rw [BitVec.toNat_ofNat, BitVec.toNat_ofNat, Nat.mod_mod]

/-- A header read from the stream has the fields of the element that stands there. -/
theorem readBlockHeader_eq (d : Inflater) : readBlockHeader d =
    takeHeader (BitVec.ofNat 2 (bitsAt d.br.src d.br.bitpos 3 / 2)) (BitVec.ofNat 1 (bitsAt d.br.src d.br.bitpos 3)) d := by
  have hfinal : bitsAt d.br.src d.br.bitpos 3 % 2 ^ 1 = bitsAt d.br.src d.br.bitpos 1 := bitsAt_mod _ _ 1 2
  have htype : bitsAt d.br.src d.br.bitpos 3 / 2 % 2 ^ 2 = bitsAt d.br.src (d.br.bitpos + 1) 2 :=
    bitsAt_div_mod _ _ (a := 1) (by decide)
  rw [readBlockHeader, onReader_readBits_bind, takeHeader, ← hfinal, ofNat_mod_two_pow]
  refine bind_congr_of_ok fun _ x hx => ?_
  obtain ⟨hsrc, hpos⟩ := takeBits_ok hx
  rw [onReader_readBits_bind]
  simp only [hsrc, hpos, ← htype, ofNat_mod_two_pow]

theorem takeHeader_ok {btype : BitVec 2} {b : BitVec 1} {d x : Inflater} (h : takeHeader btype b d = .ok () x) :
    x.btype = btype := by
  obtain ⟨-, y, -, hy⟩ := Res.bind_eq_ok.mp h
  obtain ⟨-, z, -, hz⟩ := Res.bind_eq_ok.mp hy
  cases hz
  rfl

section Blkhdr

variable {s : State} (he : s.expect = .blkhdr) {btype : BitVec 2} {b : BitVec 1}
  (ht : BitVec.ofNat 2 (bitsAt s.br.src s.br.bitpos 3 / 2) = btype)
  (hb : BitVec.ofNat 1 (bitsAt s.br.src s.br.bitpos 3) = b)
include he ht hb

/-- A header, the body that its type selects, and what follows the block (R230). -/
theorem rest_blkhdr : s.rest = (takeHeader btype b s.inflater).bind fun _ d =>
    (if btype = 0 then readStored d else if btype = 1 then readFixed d else .raise .badBlockType d).bind fun _ =>
      afterBlock := by
  rw [State.rest, he]
  simp only
  rw [inflate_eq, readBlockHeader_eq, show s.inflater.br = s.br from rfl, ht, hb]
  refine bind_congr_of_ok fun _ d hd => ?_
  rw [readBlockBody, takeHeader_ok hd]

theorem performs_block {body : Expect} (hmem : body ∈ elementsAfterHeader)
    (hbody : btype = 0 ∧ body = .stored ∨ btype = 1 ∧ body = .litlen) :
    Performs s (blockItem btype b body) (takeHeader btype b s.inflater) fun t => { t with expect := body } where
  resumes := resumes_expect hmem
  act := rfl
  below := takeHeader_leavesBelow _ _ s.inflater
  rest := by
    rw [rest_blkhdr he ht hb]
    refine bind_congr_of_ok fun _ d hd => ?_
    rcases hbody with ⟨rfl, rfl⟩ | ⟨rfl, rfl⟩ <;> rfl

theorem performs_badBlock (h0 : btype ≠ 0) (h1 : btype ≠ 1) : Performs s (badBlockItem btype b)
    ((takeHeader btype b s.inflater).bind fun _ d => .raise .badBlockType d) id where
  resumes := resumes_id
  act := rfl
  below := (takeHeader_leavesBelow _ _ s.inflater).bind fun _ _ _ => leavesBelow_raise _ _ _
  rest := by
    rw [rest_blkhdr he ht hb, Res.bind_assoc]
    refine bind_congr_of_ok fun _ d hd => ?_
    rw [if_neg h0, if_neg h1, Res.bind_raise, Res.bind_raise]

end Blkhdr

/-- The block header that stands at the reader. -/
theorem performs_blkhdr {s : State} (he : s.expect = .blkhdr) : ∃ act r next,
    Performs s act r next ∧ ∃ i, decode .blkhdr (bitsAt s.br.src s.br.bitpos 3) = .ok i ∧ exec i = act := by
  have hdecode : decode .blkhdr (bitsAt s.br.src s.br.bitpos 3) =
      .ok (blockInstr (bitsAt s.br.src s.br.bitpos 3 / 2 % 2 ^ 2) (BitVec.ofNat 1 (bitsAt s.br.src s.br.bitpos 3))) := rfl
  have hlt : bitsAt s.br.src s.br.bitpos 3 / 2 % 2 ^ 2 < 4 := Nat.mod_lt _ (by decide)
  have ht := ofNat_mod_two_pow 2 (bitsAt s.br.src s.br.bitpos 3 / 2)
  generalize bitsAt s.br.src s.br.bitpos 3 / 2 % 2 ^ 2 = k at *
  obtain rfl | rfl | rfl | rfl : k = 0 ∨ k = 1 ∨ k = 2 ∨ k = 3 := by omega
  · exact ⟨_, _, _, performs_block he ht.symm rfl (by decide) (.inl ⟨rfl, rfl⟩), _, hdecode, rfl⟩
  · exact ⟨_, _, _, performs_block he ht.symm rfl (by decide) (.inr ⟨rfl, rfl⟩), _, hdecode, rfl⟩
  · exact ⟨_, _, _, performs_badBlock he ht.symm rfl (by decide) (by decide), _, hdecode, rfl⟩
  · exact ⟨_, _, _, performs_badBlock he ht.symm rfl (by decide) (by decide), _, hdecode, rfl⟩

/-- A stored body read from the stream has the lengths of the element that stands there. -/
theorem readStored_eq (d : Inflater) {w : Nat} (hw : bitsAt d.br.src d.br.align.bitpos 32 = w) : readStored d =
    (takeBits 16 { d with br := d.br.align }).bind fun _ x => (takeBits 16 x).bind fun _ x =>
      if lenNlenOk (BitVec.ofNat 16 w) (BitVec.ofNat 16 (w / 2 ^ 16)) then storedCopy x (BitVec.ofNat 16 w).toNat
      else .raise .lenNlen x := by
  have hlen : w % 2 ^ 16 = bitsAt d.br.src d.br.align.bitpos 16 := hw ▸ bitsAt_mod _ _ 16 16
  have hnlen : w / 2 ^ 16 % 2 ^ 16 = bitsAt d.br.src (d.br.align.bitpos + 16) 16 :=
    hw ▸ bitsAt_div_mod _ _ (by decide)
  rw [readStored, onReader_readBits_bind]
  refine bind_congr_of_ok fun _ x hx => ?_
  obtain ⟨hsrc, hpos⟩ := takeBits_ok hx
  rw [onReader_readBits_bind]
  simp only [hsrc, hpos, BR.src_align, ← hnlen, ← hlen, ofNat_mod_two_pow, BitVec.toNat_ofNat]

/-- A stored body has at least its two lengths. -/
theorem readStored_leavesBelow_avail (d : Inflater) : (readStored d).LeavesBelow d.br.avail := by
  unfold readStored
  refine (readBits_leavesBelow (d.br.avail_align_le.trans_lt (Nat.lt_add_of_pos_right (by decide)))).bind fun len x hx => ?_
  refine (readBits_leavesBelow (Nat.lt_add_right 16 hx)).bind fun nlen y hy => ?_
  split
  · exact storedCopy_leavesBelow hy _
  · exact leavesBelow_raise _ _ _

/-- The stored body that stands at the reader. -/
theorem performs_stored {s : State} (he : s.expect = .stored) : ∃ act r next,
    Performs s act r next ∧ ∃ i, decode .stored (bitsAt s.br.src s.br.align.bitpos 32) = .ok i ∧ exec i = act := by
  generalize hw : bitsAt s.br.src s.br.align.bitpos 32 = w
  refine ⟨storedItem (BitVec.ofNat 16 w) (BitVec.ofNat 16 (w / 2 ^ 16)), readStored s.inflater, endBlock,
    ⟨resumes_endBlock, ?_, ?_, ?_⟩, _, rfl, rfl⟩
  · rw [readStored_eq s.inflater hw]
    rfl
  · exact readStored_leavesBelow_avail s.inflater
  · rw [State.rest, he]
    refine bind_congr_of_ok fun _ d _ => ?_
    rw [rest_endBlock, State.inflater_withInflater]

end Sys2Proof.Machine
end

section
/-! The run of `DECOMPRESS` is the sequential function (spec/46_gzip_framer.md R267, R310): each step does one element, and what is
left of the function is what is left of the run. -/

namespace Sys2Proof.Machine

/-! ### Runs that end -/

/-- Within `k` steps the command ends with the result `r`, and `IN` and `IN_LEN` stay as they are. -/
def State.Ends (s : State) (k : Nat) (r : Except ErrKind (List Byte)) : Prop :=
  ∃ t, Host.Core.run Sys2Proof.core k s = .next t ∧ t.Shows r ∧ t.inBuf = s.inBuf ∧ t.inLen = s.inLen

variable {s t : State} {d : List Byte} {k : Nat} {r : Except ErrKind (List Byte)}

theorem State.Ends.of_step (hin : s.inbox = []) (hs : step s = .next t) (ht : t.Ends k r) : s.Ends (k + 1) r := by
  obtain ⟨-, hcore, -⟩ := inputIsReadOnly
  obtain ⟨hbuf, hlen, -⟩ := hcore s t hin hs
  obtain ⟨u, hrun, hr, hubuf, hulen⟩ := ht
  exact ⟨u, (run_succ_of_next hs k).trans hrun, hr, hubuf.trans hbuf, hulen.trans hlen⟩

theorem State.Ends.of_quiet (hq : s.Quiet) (hr : s.Shows r) (k : Nat) : s.Ends k r :=
  ⟨s, run_of_quiet hq k, hr, rfl, rfl⟩

/-- An error ends the command (R320). -/
theorem ends_raiseError (e : ErrKind) (hin : s.inbox = []) (k : Nat) : (raiseError e s).Ends k (.error e) :=
  .of_quiet (r := .error e) (raiseError_quiet e hin) (raiseError_failed e s) k

/-- With nothing left to read the command completes with what `OUT` holds (R266). -/
theorem ends_nothing (hr : s.Running d) (hp : s.phase.compressing = false) (he : s.expect = .nothing) {out : List Byte}
    (ho : s.out = out) (k : Nat) : s.Ends (k + 1) (.ok out) := by
  have hshows := finishCommand_succeeded s
  rw [outBytes_of_not_compressing hp, ho] at hshows
  have hquiet : (finishCommand s).Quiet := ⟨hr.inbox, rfl, statusSuccess_not_busy⟩
  exact .of_step hr.inbox (step_finish hr.inbox hr.uops hr.busy he) (.of_quiet (r := .ok out) hquiet hshows k)

/-! ### The footer (R272) -/

/-- The footer checks of the input `y`, after the output `out`. -/
def checkedOutput (y out : List Byte) : Except ErrKind (List Byte) :=
  match checkFooter out (footerCrc y) (footerSize y) with
  | some e => .error e
  | none => .ok out

/-- What the command ends with, once the decoder has done the rest of the payload. -/
def resultOf (y : List Byte) (r : Res Inflater Unit) : Except ErrKind (List Byte) :=
  match r with
  | .ok _ x => checkedOutput y x.out
  | .raise e _ => .error e

/-- The two fields of the footer are the halves of its word. -/
theorem footer_of_leNat {y : List Byte} (h8 : 8 ≤ y.length) :
    footerCrc y = BitVec.ofNat 32 (leNat (y.drop (y.length - 8))) ∧
      footerSize y = BitVec.ofNat 32 (leNat (y.drop (y.length - 8)) / 2 ^ 32) := by
  have hsize : y.drop (y.length - 4) = (y.drop (y.length - 8)).drop 4 := by
    rw [List.drop_drop]
    congr 1
    omega
  have hlen : ((y.drop (y.length - 8)).take 4).length = 4 := by
    rw [List.length_take, List.length_drop]
    omega
  have htake : ((y.drop (y.length - 8)).drop 4).take 4 = (y.drop (y.length - 8)).drop 4 :=
    List.take_of_length_le (by rw [List.length_drop, List.length_drop]; omega)
  have hlt := leNat_lt ((y.drop (y.length - 8)).take 4)
  have hword := leNat_append ((y.drop (y.length - 8)).take 4) ((y.drop (y.length - 8)).drop 4)
  rw [List.take_append_drop, hlen] at hword
  rw [hlen] at hlt
  rw [footerCrc, footerSize, word32At, word32At, hsize, htake, hword]
  constructor
  · rw [← ofNat_mod_two_pow 32 (_ + _), Nat.add_mul_mod_self_right, ofNat_mod_two_pow]
  · rw [Nat.add_mul_div_right _ _ (by decide), Nat.div_eq_of_lt hlt, Nat.zero_add]

theorem ends_gzftr (hr : s.Reading d) (he : s.expect = .gzftr) (k : Nat) : s.Ends (k + 2) (checkedOutput d s.out) := by
  have h8 := hr.footer
  have hn : 8 ≤ s.n := hr.n ▸ h8
  obtain ⟨hcrc, hsize⟩ := footer_of_leNat h8
  have hstep := step_gzftr (i := .gzftr (footerCrc d) (footerSize d)) hr.inbox hr.uops hr.busy hr.input he hn
    (by rw [hcrc, hsize, hr.n]; rfl)
  rw [exec_gzftr] at hstep
  unfold checkedOutput
  cases hc : checkFooter s.out (footerCrc d) (footerSize d) with
  | some e =>
    simp only [footerItem, hc] at hstep
    exact .of_step hr.inbox hstep (ends_raiseError e (by exact hr.inbox) _)
  | none =>
    simp only [footerItem, hc] at hstep
    refine .of_step hr.inbox hstep (ends_nothing (d := d) ?_ ?_ ?_ ?_ k)
    exacts [{ hr.toRunning with }, hr.phase, rfl, rfl]

/-! ### The payload (R230, R239) -/

theorem State.Reading.withInflater (hr : s.Reading d) (x : Inflater) : (s.withInflater x).Reading d := { hr with }

/-- Until the footer a step does the first part of the rest. -/
theorem State.Reading.step_performs (hr : s.Reading d) (he : s.expect ≠ .gzftr) :
    ∃ act r next, Performs s act r next ∧ step s = act s := by
  have hmem := hr.expect
  simp only [elementsAfterHeader, List.mem_cons, List.not_mem_nil, or_false] at hmem
  rcases hmem with hx | hx | hx | hx | hx
  · obtain ⟨act, r, next, hp, i, hd, hi⟩ := performs_blkhdr hx
    exact ⟨act, r, next, hp, hi ▸ step_blkhdr hr.inbox hr.uops hr.busy hx hd⟩
  · obtain ⟨act, r, next, hp, i, hd, hi⟩ := performs_stored hx
    exact ⟨act, r, next, hp, hi ▸ step_stored hr.inbox hr.uops hr.busy hx hd⟩
  · obtain ⟨act, r, next, hp, i, hd, hi⟩ := performs_litlen hx
    exact ⟨act, r, next, hp, hi ▸ step_litlen hr.inbox hr.uops hr.busy hx hd⟩
  · obtain ⟨act, r, next, hp, i, hd, hi⟩ := performs_dist hx
    exact ⟨act, r, next, hp, hi ▸ step_dist hr.inbox hr.uops hr.busy hx hd⟩
  · exact absurd hx he

/-- By induction on the bits left: a step that goes on leaves fewer, and the rest of what is left (R361). -/
theorem State.Reading.ends (hr : s.Reading d) (hk : s.br.avail + 2 ≤ k) : s.Ends k (resultOf d s.rest) := by
  induction h : s.br.avail using Nat.strong_induction_on generalizing s k with
  | _ a ih =>
    obtain ⟨k, rfl⟩ := Nat.exists_eq_add_of_le' (le_of_add_le_right hk)
    by_cases hf : s.expect = .gzftr
    · rw [State.rest, hf]
      exact ends_gzftr hr hf k
    · obtain ⟨act, r, next, hp, hs⟩ := hr.step_performs hf
      obtain ⟨hnext, hact, hbelow, hrest⟩ := hp
      rw [hact] at hs
      rw [hrest]
      cases r with
      | raise e x =>
        rw [runInflater_raise] at hs
        exact .of_step hr.inbox hs (ends_raiseError e (hr.withInflater x).inbox _)
      | ok u x =>
        rw [runInflater_ok] at hs
        have hlt := hbelow u x rfl
        have hbr : (next (s.withInflater x)).br = x.br := hnext.br _
        exact .of_step hr.inbox hs (ih x.br.avail (by omega) (hnext.reading (hr.withInflater x)) (by rw [hbr]; omega)
          (congrArg BR.avail hbr))

/-! ### The optional fields (R270, R271) -/

/-- The fields that `opt` announces, skipped from an offset on, in R270's order. -/
def skipRest (d : List Byte) (opt : Byte) (pos endPos : Nat) : Option Nat :=
  (skipIf (opt.getLsbD 2) pos (skipFextra d · endPos)).bind fun pos =>
    (skipIf (opt.getLsbD 3) pos (skipText d · endPos)).bind fun pos =>
      (skipIf (opt.getLsbD 4) pos (skipText d · endPos)).bind fun pos =>
        skipIf (opt.getLsbD 1) pos (skipFhcrc · endPos)

theorem skipFields_eq_skipRest (d : List Byte) (flg : Byte) (endPos : Nat) :
    skipFields d flg endPos = skipRest d flg 10 endPos := rfl

/-- How many fields `opt` announces. -/
def fieldsLeft (opt : Byte) : Nat :=
  (opt.getLsbD 2).toNat + (opt.getLsbD 3).toNat + (opt.getLsbD 4).toNat + (opt.getLsbD 1).toNat

theorem fieldsLeft_le (opt : Byte) : fieldsLeft opt ≤ 4 := by
  have h := fun i => Bool.toNat_le (opt.getLsbD i)
  have h2 := h 2
  have h3 := h 3
  have h4 := h 4
  have h1 := h 1
  unfold fieldsLeft
  omega

/-- The field element `i` does the first part of the skip: `past` its field, then the fields that `opt` still announces. -/
structure SkipsFirst (opt : Byte) (i : Instr) (mask : Byte) (past : List Byte → Nat → Nat → Option Nat) : Prop where
  decode : decode .gzopt opt.toNat = .ok i
  fewer : fieldsLeft (opt &&& ~~~mask) < fieldsLeft opt
  exec : ∀ {s : State} {d : List Byte}, s.input = some d → exec i s = fieldItem mask (past d s.gz.pos s.gz.endPos) s
  rest : ∀ d pos endPos, skipRest d opt pos endPos =
    (past d pos endPos).bind fun pos => skipRest d (opt &&& ~~~mask) pos endPos

/-- The element that the sequencer decodes from the fields left, or none is left. -/
theorem skipsFirst_or_done (opt : Byte) : (∃ i mask past, SkipsFirst opt i mask past) ∨
    opt &&& 0x1E#8 = 0 ∧ ∀ d pos endPos, skipRest d opt pos endPos = some pos := by
  by_cases h2 : opt[2] = true
  · refine .inl ⟨.gzoptFextra, 0x04, skipFextra, if_pos h2, ?_, exec_gzoptFextra, fun d pos endPos => ?_⟩
    · simp [fieldsLeft, h2]
    · simp [skipRest, skipIf, h2]
  · by_cases h3 : opt[3] = true
    · refine .inl ⟨.gzoptFname, 0x08, skipText, (if_neg h2).trans (if_pos h3), ?_, exec_gzoptFname, fun d pos endPos => ?_⟩
      · simp [fieldsLeft, h2, h3]
      · simp [skipRest, skipIf, h2, h3]
    · by_cases h4 : opt[4] = true
      · refine .inl ⟨.gzoptFcomment, 0x10, skipText, (if_neg h2).trans ((if_neg h3).trans (if_pos h4)), ?_,
          exec_gzoptFcomment, fun d pos endPos => ?_⟩
        · simp [fieldsLeft, h2, h3, h4]
        · simp [skipRest, skipIf, h2, h3, h4]
      · by_cases h1 : opt[1] = true
        · refine .inl ⟨.gzoptFhcrc, 0x02, fun _ => skipFhcrc,
            (if_neg h2).trans ((if_neg h3).trans ((if_neg h4).trans (if_pos h1))), ?_, fun _ => exec_gzoptFhcrc _,
            fun d pos endPos => ?_⟩
          · simp [fieldsLeft, h1, h2, h3, h4]
          · simp [skipRest, skipIf, h1, h2, h3, h4]
        · refine .inr ⟨?_, fun d pos endPos => by simp [skipRest, skipIf, h1, h2, h3, h4]⟩
          revert opt
          decide +kernel

/-- What the command ends with, by where the optional fields end. -/
def afterFields (y : List Byte) (endPos : Nat) (past : Option Nat) : Except ErrKind (List Byte) :=
  match past with
  | some pos => resultOf y (inflate ⟨BR.init ((y.take endPos).drop pos), [], 0, 0⟩)
  | none => .error .badFieldLen

/-- `DECOMPRESS` of `d` where the optional fields come next. -/
def skipping (d : List Byte) (gz : GZ) : State := { decompressing d with gz := gz, expect := .gzopt }

theorem skipping_busy (d : List Byte) (gz : GZ) (m : Memory) (f : Nat) : ((skipping d gz).onInput m f).busy = true :=
  statusBusy_busy

section Fields

variable {m : Memory} (hm : m.readBytes 0 d.length = some d) (f : Nat) (gz : GZ)
include hm

/-- With the fields skipped the payload is read (R271). -/
theorem ends_payload (h8 : 8 ≤ d.length) (ho : gz.opt &&& 0x1E#8 = 0) (hk : 8 * gz.endPos + 3 ≤ k) :
    ((skipping d gz).onInput m f).Ends k (resultOf d (inflate ⟨BR.init (payload d gz), [], 0, 0⟩)) := by
  obtain ⟨k, rfl⟩ := Nat.exists_eq_add_of_le' (le_of_add_le_right hk : 1 ≤ k)
  refine .of_step rfl (step_gzopt_of_none rfl rfl (skipping_busy d gz m f) hm rfl ho) ?_
  have hreading : ({ enterInflate ((skipping d gz).onInput m f) with br := BR.init (payload d gz) } : State).Reading d :=
    ⟨⟨⟨rfl, rfl, statusBusy_busy, rfl⟩, h8, (by decide : Expect.blkhdr ∈ elementsAfterHeader)⟩, hm, rfl⟩
  have hlen : (payload d gz).length ≤ gz.endPos := by
    rw [payload, List.length_drop, List.length_take]
    omega
  refine hreading.ends ?_
  show 8 * (payload d gz).length + 2 ≤ k
  omega

/-- By induction on the fields left. -/
theorem ends_fields (h8 : 8 ≤ d.length) (hk : fieldsLeft gz.opt + 8 * gz.endPos + 3 ≤ k) :
    ((skipping d gz).onInput m f).Ends k (afterFields d gz.endPos (skipRest d gz.opt gz.pos gz.endPos)) := by
  induction h : fieldsLeft gz.opt using Nat.strong_induction_on generalizing gz k with
  | _ a ih =>
    rcases skipsFirst_or_done gz.opt with ⟨i, mask, past, hi⟩ | ⟨ho, hrest⟩
    · obtain ⟨k, rfl⟩ := Nat.exists_eq_add_of_le' (le_of_add_le_right hk : 1 ≤ k)
      have hin : ((skipping d gz).onInput m f).input = some d := hm
      have hstep : step ((skipping d gz).onInput m f) =
          fieldItem mask (past d gz.pos gz.endPos) ((skipping d gz).onInput m f) :=
        (step_gzopt rfl rfl (skipping_busy d gz m f) rfl hi.decode).trans (hi.exec hin)
      have hfewer := hi.fewer
      rw [hi.rest]
      cases hp : past d gz.pos gz.endPos with
      | none =>
        rw [hp] at hstep
        exact .of_step rfl hstep (ends_raiseError _ rfl _)
      | some pos =>
        rw [hp] at hstep
        have hk' : fieldsLeft (gz.opt &&& ~~~mask) + 8 * gz.endPos + 3 ≤ k := by omega
        exact .of_step rfl hstep (ih _ (h ▸ hfewer) { gz with pos := pos, opt := gz.opt &&& ~~~mask } hk' rfl)
    · rw [hrest]
      exact ends_payload hm f gz h8 ho (by omega)

end Fields

/-! ### The header (R268, R269) -/

/-- After the magic the sequential function is the fields, the payload and the footer. -/
theorem decompressBytes_of_magic {y : List Byte} (hn : 18 ≤ y.length) (hm : y.take 3 = [0x1F, 0x8B, 0x08]) :
    decompressBytes y = afterFields y (y.length - 8) (skipRest y (byteAt y 3) 10 (y.length - 8)) := by
  rw [decompressBytes, parseHeader_of_magic hn hm, skipFields_eq_skipRest]
  cases skipRest y (byteAt y 3) 10 (y.length - 8) with
  | none => rfl
  | some pos =>
    simp only [afterFields, inflateBytes, payload]
    cases inflate ⟨BR.init ((y.take (y.length - 8)).drop pos), [], 0, 0⟩ <;> rfl

theorem decompressBytes_of_bad_magic {y : List Byte} (hn : 18 ≤ y.length) (hm : y.take 3 ≠ [0x1F, 0x8B, 0x08]) :
    decompressBytes y = .error .badHeader := by
  rw [decompressBytes, parseHeader_of_bad_magic hn hm]

/-- A byte of a little-endian integer is a digit of it. -/
theorem ofNat_leNat_append (as : List Byte) (b : Byte) (bs : List Byte) :
    BitVec.ofNat 8 (leNat (as ++ b :: bs) / 2 ^ (8 * as.length)) = b := by
  rw [leNat_append, Nat.add_mul_div_right _ _ (Nat.two_pow_pos _), Nat.div_eq_of_lt (leNat_lt as), Nat.zero_add, leNat,
    ← ofNat_mod_two_pow, show (2 : Nat) ^ 8 = 256 from rfl, Nat.add_mul_mod_self_left, Nat.mod_eq_of_lt b.isLt,
    BitVec.ofNat_toNat, BitVec.setWidth_eq]

/-- The header's word holds the magic and the flags. -/
theorem decode_gzhdr_of_magic {y : List Byte} (hn : 18 ≤ y.length) (hm : y.take 3 = [0x1F, 0x8B, 0x08]) :
    ∃ mtime xfl os, decode .gzhdr (leNat (y.take 10)) = .ok (.gzhdr (byteAt y 3) mtime xfl os) := by
  have h3 : 3 ≤ y.length := by omega
  have hflg : BitVec.ofNat 8 (leNat (y.take 10) / 2 ^ 24) = byteAt y 3 := by
    have hsplit : y.take 10 = y.take 3 ++ y[3] :: (y.drop 4).take 6 := by
      rw [List.take_add (i := 3) (j := 7), List.drop_eq_getElem_cons (by omega), List.take_succ_cons]
    have hdigit := ofNat_leNat_append (y.take 3) y[3] ((y.drop 4).take 6)
    rw [← hsplit, List.length_take_of_le h3] at hdigit
    exact hdigit.trans (List.getD_eq_getElem y 0 (by omega)).symm
  refine ⟨_, _, _, (if_pos ?_).trans (by rw [hflg])⟩
  rw [leNat_take_ten_mod h3, (leNat_take_three_eq_magic h3).mpr hm]

/-- `DECOMPRESS` from its start: the length, the magic, then the fields (R268 to R270). -/
theorem ends_decompressing {m : Memory} (hm : m.readBytes 0 d.length = some d) (f : Nat) :
    ((decompressing d).onInput m f).Ends (8 * d.length + 9) (decompressBytes d) := by
  have hbusy : ((decompressing d).onInput m f).busy = true := statusBusy_busy
  have hin : ((decompressing d).onInput m f).input = some d := hm
  obtain ⟨-, hsteps⟩ := headerElement ((decompressing d).onInput m f)
  obtain ⟨hshort, hbad⟩ := hsteps rfl rfl hbusy rfl
  rcases Nat.lt_or_ge d.length 18 with hn | hn
  · rw [decompressBytes_of_short hn]
    exact .of_step rfl (hshort hn) (ends_raiseError _ rfl _)
  · by_cases hmagic : d.take 3 = [0x1F, 0x8B, 0x08]
    · obtain ⟨mtime, xfl, os, hd⟩ := decode_gzhdr_of_magic hn hmagic
      have hstep := step_gzhdr rfl rfl hbusy hin rfl hn hd
      rw [exec_gzhdr hn] at hstep
      have hfields := fieldsLeft_le (byteAt d 3)
      rw [decompressBytes_of_magic hn hmagic]
      refine .of_step rfl hstep (ends_fields hm f (acceptHeader (byteAt d 3) ⟨0, 0, d.length - 8, 0, 0, 0⟩) (by omega) ?_)
      show fieldsLeft (byteAt d 3) + 8 * (d.length - 8) + 3 ≤ _
      omega
    · rw [decompressBytes_of_bad_magic hn hmagic]
      exact .of_step rfl (hbad d hin hn hmagic) (ends_raiseError _ rfl _)

/-- Settles O18: the run from the command write on, followed element by element (`State.Reading.ends`). -/
theorem decompressRunsToCompletion : Obligations.DecompressRunsToCompletion := fun s y hq hh => by
  obtain ⟨hl, hin⟩ := hh
  obtain ⟨t, hrun, hshows, hbuf, hlen⟩ := ends_decompressing (hl ▸ hin) s.free
  rw [← run_succ_of_next (step_withCommand_decompress hq hl)] at hrun
  refine ⟨t, hrun, ?_, hbuf, hlen.trans hl⟩
  unfold State.Shows at hshows
  cases hr : decompressBytes y <;> rw [hr] at hshows <;> exact hshows

end Sys2Proof.Machine
end
